-- ==== Sys2Proof/Word.lean ====
section
/-! DEFINITION. The two widths of the machine (R17, R40): bytes for data and status, words for addresses. -/

namespace Sys2Proof

/-- A byte: every data value, every 8-bit register, every memory cell (R10, R17). -/
abbrev Byte := BitVec 8

/-- A word: the program counter and every address (R12, R40). -/
abbrev Word := BitVec 16

end Sys2Proof
end

