-- ==== Sys2Proof/Machine/Bits.lean ====
section
/-! DEFINITION. Bit fields, byte order and sign extension (00_scope.md section 6, R52). -/

namespace Sys2Proof.Machine

/-- `w[7:0]`. -/
def lo8 (w : Word) : Byte := w.setWidth 8

/-- `w[15:8]`, also `page(w)`. -/
def hi8 (w : Word) : Byte := (w >>> 8).setWidth 8

/-- The word with high byte `hi` and low byte `lo`. -/
def word (hi lo : Byte) : Word := hi ++ lo

/-- `zext_16`. -/
def zext16 (b : Byte) : Word := b.setWidth 16

/-- `sext_16`. -/
def sext16 (b : Byte) : Word := b.signExtend 16

/-- Whether two addresses lie in different pages (R80, R81, R84, R85). -/
def pageCrossed (a b : Word) : Bool := hi8 a != hi8 b

end Sys2Proof.Machine
end

