-- ==== Sys2Proof/Config.lean ====
section
/-! DEFINITION. What an implementation fixes (R8): one field for every parameter of the spec's table, under the spec's name. The
values this model runs with are `Sys2Proof.Machine.config` (Machine/Params.lean). -/

namespace Sys2Proof.Config

/-- A row of SKIP_TABLE (R90): the opcode byte, the instruction's length in bytes, its cycles. -/
structure SkipRow where
  opcode : Byte
  length : Nat
  cycles : Nat
  deriving DecidableEq, Repr

/-- UNKNOWN_OPCODE_POLICY (R301, D7). The spec specifies `abort`; to `logAndSkip` it gives no length and no cost, so that policy
takes them as parameters (U3, log 10). -/
inductive UnknownOpcodePolicy where
  | abort
  | logAndSkip (length cycles : Nat)
  deriving DecidableEq, Repr

/-- The three parameters the spec leaves OPEN. -/
structure OpenParams where
  /-- RESET_P, the status register after a CPU reset. -/
  resetP  : Byte
  /-- MEM_INIT as (address, byte) pairs; a cell not listed holds `unlistedByte`. -/
  memInit : List (Word × Byte)
  /-- PPU_INIT as (cycle, scanline, frameCount). -/
  ppuInit : Nat × Int × Nat
  deriving DecidableEq, Repr

/-- Every parameter of R8. -/
structure Params extends OpenParams where
  /-- XLEN_DATA; the type `Byte` has this width (`wellFormedParams`). -/
  xlenData            : Nat
  /-- XLEN_ADDR; the type `Word` has this width (`wellFormedParams`). -/
  xlenAddr            : Nat
  /-- STACK_PAGE, the high byte of every stack address. -/
  stackPage           : Byte
  /-- PPU_PER_CPU, PPU ticks per CPU cycle. -/
  ppuPerCpu           : Nat
  /-- PPU_CYCLES_PER_LINE, the number of values of `cycle`. -/
  ppuCyclesPerLine    : Nat
  /-- PPU_LINES, the number of values of `scanline`, the first of which is `preRenderLine`. -/
  ppuLines            : Nat
  /-- VBL_SET_AT, (scanline, cycle) that sets VBlank. -/
  vblSetAt            : Int × Nat
  /-- VBL_CLEAR_AT, (scanline, cycle) that clears VBlank. -/
  vblClearAt          : Int × Nat
  /-- SPR_CLEAR_AT, (scanline, cycle) that clears the sprite flags. -/
  sprClearAt          : Int × Nat
  /-- SCROLL_LATCH_AT, (scanline, cycle) of the scroll latch. -/
  scrollLatchAt       : Int × Nat
  /-- RAM_SIZE. -/
  ramSize             : Word
  /-- RAM_MIRROR_END. -/
  ramMirrorEnd        : Word
  /-- PPU_REG_COUNT. -/
  ppuRegCount         : Word
  /-- PPU_REG_BASE. -/
  ppuRegBase          : Word
  /-- PPU_REG_END. -/
  ppuRegEnd           : Word
  /-- IO_BASE. -/
  ioBase              : Word
  /-- IO_END. -/
  ioEnd               : Word
  /-- PRG_BASE. -/
  prgBase             : Word
  /-- PRG_MIRROR. -/
  prgMirror           : Word
  /-- PRG_SIZE. -/
  prgSize             : Word
  /-- VEC_NMI, a little-endian word, as are the other vectors. -/
  vecNmi              : Word
  /-- VEC_RESET. -/
  vecReset            : Word
  /-- VEC_IRQ_BRK. -/
  vecIrqBrk           : Word
  /-- RESET_SP, `sp` after a CPU reset. -/
  resetSp             : Byte
  /-- CONF_PC, the conformance override of `pc`. -/
  confPc              : Word
  /-- CONF_P, the conformance override of `p`. -/
  confP               : Byte
  /-- SKIP_TABLE, the unofficial no-operation opcodes. -/
  skipTable           : List SkipRow
  /-- UNKNOWN_OPCODE_POLICY. -/
  unknownOpcodePolicy : UnknownOpcodePolicy
  /-- FRAMECOUNT_WIDTH in bits; `none` is an unbounded natural number. -/
  frameCountWidth     : Option Nat
  /-- The base cycle count of each official opcode: line `h`, place `l` is opcode 16·h + l; 0 where there is none. -/
  baseCycles          : List (List Nat)
  deriving DecidableEq, Repr

/-- What a cell that nothing has written reads as. DESIGN CHOICE (log 3): the zero recommended for MEM_INIT. -/
def unlistedByte : Byte := 0x00

/-- The pre-render line (R25). -/
def preRenderLine : Int := -1

end Sys2Proof.Config
end

