-- ==== Sys2Proof/Machine/Params.lean ====
section
/-! DEFINITION. The value of every parameter of R8 that this model runs with: the spec's, and for an OPEN parameter the one the
spec recommends. Every definition that depends on a parameter reads it here. -/

namespace Sys2Proof.Machine

/-- The base cycle counts of the 151 official opcodes (R89), in the layout of the opcode map. -/
def baseCyclesTable : List (List Nat) := [
  [7, 6, 0, 0, 0, 3, 5, 0, 3, 2, 2, 0, 0, 4, 6, 0],
  [2, 5, 0, 0, 0, 4, 6, 0, 2, 4, 0, 0, 0, 4, 7, 0],
  [6, 6, 0, 0, 3, 3, 5, 0, 4, 2, 2, 0, 4, 4, 6, 0],
  [2, 5, 0, 0, 0, 4, 6, 0, 2, 4, 0, 0, 0, 4, 7, 0],
  [6, 6, 0, 0, 0, 3, 5, 0, 3, 2, 2, 0, 3, 4, 6, 0],
  [2, 5, 0, 0, 0, 4, 6, 0, 2, 4, 0, 0, 0, 4, 7, 0],
  [6, 6, 0, 0, 0, 3, 5, 0, 4, 2, 2, 0, 5, 4, 6, 0],
  [2, 5, 0, 0, 0, 4, 6, 0, 2, 4, 0, 0, 0, 4, 7, 0],
  [0, 6, 0, 0, 3, 3, 3, 0, 2, 0, 2, 0, 4, 4, 4, 0],
  [2, 6, 0, 0, 4, 4, 4, 0, 2, 5, 2, 0, 0, 5, 0, 0],
  [2, 6, 2, 0, 3, 3, 3, 0, 2, 2, 2, 0, 4, 4, 4, 0],
  [2, 5, 0, 0, 4, 4, 4, 0, 2, 4, 2, 0, 4, 4, 4, 0],
  [2, 6, 0, 0, 3, 3, 5, 0, 2, 2, 2, 0, 4, 4, 6, 0],
  [2, 5, 0, 0, 0, 4, 6, 0, 2, 4, 0, 0, 0, 4, 7, 0],
  [2, 6, 0, 0, 3, 3, 5, 0, 2, 2, 2, 0, 4, 4, 6, 0],
  [2, 5, 0, 0, 0, 4, 6, 0, 2, 4, 0, 0, 0, 4, 7, 0] ]

/-- The 27 skip opcodes with length and cycles (R90, D6, log 11). -/
def skipTable : List Config.SkipRow := [
  ⟨0x04, 2, 3⟩, ⟨0x0C, 3, 4⟩, ⟨0x14, 2, 4⟩, ⟨0x1A, 1, 2⟩, ⟨0x1C, 3, 4⟩, ⟨0x34, 2, 4⟩, ⟨0x3A, 1, 2⟩,
  ⟨0x3C, 3, 4⟩, ⟨0x44, 2, 3⟩, ⟨0x54, 2, 4⟩, ⟨0x5A, 1, 2⟩, ⟨0x5C, 3, 4⟩, ⟨0x64, 2, 3⟩, ⟨0x74, 2, 4⟩,
  ⟨0x7A, 1, 2⟩, ⟨0x7C, 3, 4⟩, ⟨0x80, 2, 2⟩, ⟨0x82, 2, 2⟩, ⟨0x89, 2, 2⟩, ⟨0xC2, 2, 2⟩, ⟨0xD4, 2, 4⟩,
  ⟨0xDA, 1, 2⟩, ⟨0xDC, 3, 4⟩, ⟨0xE2, 2, 2⟩, ⟨0xF4, 2, 4⟩, ⟨0xFA, 1, 2⟩, ⟨0xFC, 3, 4⟩ ]

/-- The configuration (R8). DESIGN CHOICE: `resetP` (log 2), `memInit` (log 3), `ppuInit` (log 4), `unknownOpcodePolicy` (log 10) and
`skipTable` (log 11) are choices among values the spec leaves open. -/
def config : Config.Params where
  resetP              := 0x34
  memInit             := []
  ppuInit             := (0, 241, 0)
  xlenData            := 8
  xlenAddr            := 16
  stackPage           := 0x01
  ppuPerCpu           := 3
  ppuCyclesPerLine    := 341
  ppuLines            := 262
  vblSetAt            := (240, 1)
  vblClearAt          := (260, 1)
  sprClearAt          := (-1, 1)
  scrollLatchAt       := (-1, 304)
  ramSize             := 0x0800
  ramMirrorEnd        := 0x2000
  ppuRegCount         := 8
  ppuRegBase          := 0x2000
  ppuRegEnd           := 0x4000
  ioBase              := 0x4000
  ioEnd               := 0x4020
  prgBase             := 0x8000
  prgMirror           := 0xC000
  prgSize             := 0x4000
  vecNmi              := 0xFFFA
  vecReset            := 0xFFFC
  vecIrqBrk           := 0xFFFE
  resetSp             := 0xFD
  confPc              := 0xC000
  confP               := 0x24
  skipTable           := skipTable
  unknownOpcodePolicy := .abort
  frameCountWidth     := none
  baseCycles          := baseCyclesTable

/-- The spec's recommended values of the OPEN parameters. -/
def recommended : Config.OpenParams := config.toOpenParams

/-- The base cycle count of an official opcode (R87, R89). -/
def baseCycles (op : Byte) : Nat := (config.baseCycles.getD (op.toNat / 16) []).getD (op.toNat % 16) 0

/-- The row of an opcode in SKIP_TABLE, if it is there (R90). -/
def skipRow? (op : Byte) : Option Config.SkipRow := config.skipTable.find? (fun r => r.opcode == op)

/-- (scanline, cycle) at which a status read races the VBlank set: the position one tick before it (R330). -/
def vblRaceAt : Int × Nat := (config.vblSetAt.1, config.vblSetAt.2 - 1)

/-- The line after the last one, the intermediate value that wraps to the pre-render line (R321). -/
def lineAfterLast : Int := Config.preRenderLine + config.ppuLines

end Sys2Proof.Machine
end

