-- ==== Sys2Proof/Machine/State.lean ====
section
/-! DEFINITION. The whole state of the machine as plain data (10_state.md), what can stop a step, and the state after reset. -/

namespace Sys2Proof.Machine

/-- The fatal faults of the block (R300). They are the values of the fault record (R21) and the reasons a faulted machine
answers when it is asked to step or to load a program (R303). -/
inductive Fault where
  /-- Raised by the decoder on an opcode byte in neither table (R301). Safe: the spec stops the machine here too. -/
  | unknownOpcode (op : Byte)
  /-- Raised by the bus port on an address outside the 16-bit space (R302). Safe: no CPU step can raise it (R57). -/
  | addressOutOfBounds (addr : Int)
  deriving DecidableEq, Repr

/-- What the model refuses. -/
inductive Refusal where
  /-- An arm of `exec` without a meaning. Safe. No arm uses it. -/
  | notModelled (mnemonic : String)
  /-- Raised by `loadRom` and `powerOn` on a program image that is not exactly 16384 bytes (R51, D17). Safe: the spec refuses it. -/
  | romImageSize (size : Nat)
  deriving DecidableEq, Repr

/-- The byte array `M` (R23): the cells that hold something other than what an unlisted cell reads as, by strictly rising
canonical address. -/
abbrev Memory := List Host.Cell

/-- Everything the spec gives the machine. -/
structure State where
  /-- Accumulator (R10). -/
  a           : Byte
  /-- Index register (R10). -/
  x           : Byte
  /-- Index register (R10). -/
  y           : Byte
  /-- Program counter (R12). -/
  pc          : Word
  /-- Stack pointer (R13). -/
  sp          : Byte
  /-- Status register, all eight bits stored (R14, R15). -/
  p           : Byte
  /-- CPU cycles of the latest CPU step (R19). -/
  cycleCount  : Nat
  /-- The NMI request latch (R20). -/
  nmiPending  : Bool
  /-- The fault record (R21). -/
  fault       : Option Fault
  /-- RAM, PPU register bytes, I/O storage, cartridge-low storage, program ROM (R23). -/
  mem         : Memory
  /-- PPU position within the line (R24). -/
  cycle       : Nat
  /-- PPU line, -1 is pre-render (R25). -/
  scanline    : Int
  /-- Completed frames (R26). -/
  frameCount  : Nat
  /-- PPU write toggle (R30). -/
  w           : Bool
  /-- Suppress the next VBlank set (R31). -/
  suppressVbl : Bool
  /-- Suppress the next NMI request (R31). -/
  suppressNmi : Bool
  deriving DecidableEq, Repr

/-- The machine right after power-on and reset (R32), with the recommended values of the OPEN parameters (logs 2, 3, 4) and
no program image loaded yet, so that `pc`, the word at the reset vector, is 0x0000 (log 5). -/
def State.reset : State where
  a           := 0x00
  x           := 0x00
  y           := 0x00
  pc          := 0x0000
  sp          := config.resetSp
  p           := config.resetP
  cycleCount  := 0
  nmiPending  := false
  fault       := none
  mem         := []
  cycle       := config.ppuInit.1
  scanline    := config.ppuInit.2.1
  frameCount  := config.ppuInit.2.2
  w           := false
  suppressVbl := false
  suppressNmi := false

end Sys2Proof.Machine
end

