-- ==== Sys2Proof/Machine/Flags.lean ====
section
/-! DEFINITION. The status register's fields and every flag computation of the spec (R14 to R18, R141, R142, R144 to R148,
R150, R151, R160 to R163). Each computation takes the old status byte and gives the new one. -/

namespace Sys2Proof.Machine

/-- `p.C` (R14). -/
def flagC (p : Byte) : Bool := p.getLsbD 0
/-- `p.Z` (R14). -/
def flagZ (p : Byte) : Bool := p.getLsbD 1
/-- `p.I` (R14). -/
def flagI (p : Byte) : Bool := p.getLsbD 2
/-- `p.D` (R14). -/
def flagD (p : Byte) : Bool := p.getLsbD 3
/-- `p.V` (R14). -/
def flagV (p : Byte) : Bool := p.getLsbD 6
/-- `p.N` (R14). -/
def flagN (p : Byte) : Bool := p.getLsbD 7

/-- Write the bits of `mask` in `p` to `v`, leaving the others. -/
def setFlag (mask : Byte) (v : Bool) (p : Byte) : Byte := if v then p ||| mask else p &&& ~~~mask

/-- `p.C <- v`. -/
def setC (v : Bool) (p : Byte) : Byte := setFlag 0x01 v p
/-- `p.Z <- v`. -/
def setZ (v : Bool) (p : Byte) : Byte := setFlag 0x02 v p
/-- `p.I <- v`. -/
def setI (v : Bool) (p : Byte) : Byte := setFlag 0x04 v p
/-- `p.D <- v`. -/
def setD (v : Bool) (p : Byte) : Byte := setFlag 0x08 v p
/-- `p.V <- v`. -/
def setV (v : Bool) (p : Byte) : Byte := setFlag 0x40 v p
/-- `p.N <- v`. -/
def setN (v : Bool) (p : Byte) : Byte := setFlag 0x80 v p

/-- `setZN(v)` (R18): Zero and Negative from a result byte. -/
def setZN (v : Byte) (p : Byte) : Byte := setN (v.getLsbD 7) (setZ (v == 0) p)

/-- The status byte PHP and BRK push (R15, R123, R198). -/
def statusFromInstr (p : Byte) : Byte := p ||| 0x30

/-- The status byte an NMI entry pushes (R15, R307). -/
def statusFromNmi (p : Byte) : Byte := (p &&& 0xEF) ||| 0x20

/-- What PLP and RTI load from a pulled byte (R15, R125, R199). -/
def statusPulled (v : Byte) : Byte := (v &&& 0xEF) ||| 0x20

/-- A result byte and the status after the computation. -/
structure Alu where
  r : Byte
  p : Byte
  deriving DecidableEq, Repr

/-- ADC (R144): binary sum with carry in; Carry from the widened sum (R141), Overflow from the signs (R142). -/
def adc (a m p : Byte) : Alu :=
  let t := a.toNat + m.toNat + (flagC p).toNat
  let r := BitVec.ofNat 8 t
  { r := r, p := setZN r (setV ((~~~(a ^^^ m) &&& (a ^^^ r)).getLsbD 7) (setC (decide (t > 0xFF)) p)) }

/-- SBC (R145): binary difference with borrow in, the borrow being the complement of Carry. -/
def sbc (a m p : Byte) : Alu :=
  let t : Int := a.toNat - m.toNat - (1 - (flagC p).toNat)
  let r := BitVec.ofInt 8 t
  { r := r, p := setZN r (setV (((a ^^^ m) &&& (a ^^^ r)).getLsbD 7) (setC (decide (t ≥ 0)) p)) }

/-- CMP, CPX, CPY (R146 to R148): the flags of `reg - m` without borrow in; Overflow is not written. -/
def compareFlags (reg m p : Byte) : Byte :=
  let t : Int := reg.toNat - m.toNat
  setZN (BitVec.ofInt 8 t) (setC (decide (t ≥ 0)) p)

/-- BIT (R133): Zero from `a & m`, Negative and Overflow from bits 7 and 6 of the operand. -/
def bitFlags (a m p : Byte) : Byte :=
  setV (m.getLsbD 6) (setN (m.getLsbD 7) (setZ (a &&& m == 0) p))

/-- INC, INX, INY (R150, R152, R153). -/
def incr (v p : Byte) : Alu := { r := v + 1, p := setZN (v + 1) p }

/-- DEC, DEX, DEY (R151, R154, R155). -/
def decr (v p : Byte) : Alu := { r := v - 1, p := setZN (v - 1) p }

/-- ASL (R160). -/
def asl (v p : Byte) : Alu :=
  let r := v <<< 1
  { r := r, p := setZN r (setC (v.getLsbD 7) p) }

/-- LSR (R161). -/
def lsr (v p : Byte) : Alu :=
  let r := v >>> 1
  { r := r, p := setZN r (setC (v.getLsbD 0) p) }

/-- ROL (R162): the old Carry enters bit 0. -/
def rol (v p : Byte) : Alu :=
  let r := (v <<< 1) ||| (if flagC p then 0x01 else 0x00)
  { r := r, p := setZN r (setC (v.getLsbD 7) p) }

/-- ROR (R163): the old Carry enters bit 7. -/
def ror (v p : Byte) : Alu :=
  let r := (v >>> 1) ||| (if flagC p then 0x80 else 0x00)
  { r := r, p := setZN r (setC (v.getLsbD 0) p) }

end Sys2Proof.Machine
end

