-- ==== Sys2Proof/Machine/Ops.lean ====
section
/-! DEFINITION. The named operations over registers and memory: register writes, the byte array, the bus with its router and
its PPU register port, the stack, words, interrupt entry and return. Every meaning is written over these. -/

namespace Sys2Proof.Machine

/-! ## Register writes -/

/-- `a <- v`. -/
def State.withA (v : Byte) (s : State) : State := { s with a := v }
/-- `x <- v`. -/
def State.withX (v : Byte) (s : State) : State := { s with x := v }
/-- `y <- v`. -/
def State.withY (v : Byte) (s : State) : State := { s with y := v }
/-- `pc <- v`. -/
def State.withPc (v : Word) (s : State) : State := { s with pc := v }
/-- `sp <- v`. -/
def State.withSp (v : Byte) (s : State) : State := { s with sp := v }
/-- `p <- v`. -/
def State.withP (v : Byte) (s : State) : State := { s with p := v }
/-- `cycleCount <- n`. -/
def State.withCycles (n : Nat) (s : State) : State := { s with cycleCount := n }
/-- Replace the byte array. -/
def State.withMem (m : Memory) (s : State) : State := { s with mem := m }
/-- Record a fault (R303). -/
def State.withFault (r : Fault) (s : State) : State := { s with fault := some r }

/-- An effect that the fault state shuts out (R303): a faulted machine stays as it is. -/
def unlessFaulted (f : State → State) (s : State) : State := if s.fault.isSome then s else f s

/-- Write `a` and derive Zero and Negative from the byte written (R11). -/
def writeA (v : Byte) (s : State) : State := (s.withA v).withP (setZN v s.p)
/-- Write `x` and derive Zero and Negative (R11). -/
def writeX (v : Byte) (s : State) : State := (s.withX v).withP (setZN v s.p)
/-- Write `y` and derive Zero and Negative (R11). -/
def writeY (v : Byte) (s : State) : State := (s.withY v).withP (setZN v s.p)

/-! ## The byte array -/

/-- What a cell that is not listed reads as (log 3). -/
def Memory.unlisted (_ : Nat) : Byte := Config.unlistedByte

/-- The byte in cell `k`. -/
def Memory.read : Memory → Nat → Byte
  | [], k => Memory.unlisted k
  | (j, b) :: m, k => if j = k then b else Memory.read m k

/-- Put `v` into cell `k`, keeping the canonical form. -/
def Memory.write : Memory → Nat → Byte → Memory
  | [], k, v => if v = Memory.unlisted k then [] else [(k, v)]
  | (j, b) :: m, k, v =>
    if k < j then (if v = Memory.unlisted k then (j, b) :: m else (k, v) :: (j, b) :: m)
    else if k = j then (if v = Memory.unlisted k then m else (k, v) :: m)
    else (j, b) :: Memory.write m k v

/-- The cells the router ever uses (R23): RAM, PPU registers, I/O and cartridge-low storage, program ROM. -/
def isCell (k : Nat) : Bool :=
  k < config.ramSize.toNat || (config.ppuRegBase.toNat ≤ k && k < config.ppuRegBase.toNat + config.ppuRegCount.toNat) ||
    (config.ioBase.toNat ≤ k && k < config.prgBase.toNat + config.prgSize.toNat)

/-- The canonical form of a byte array: strictly rising cells that exist, none listed with the byte an unlisted cell reads as. -/
abbrev Memory.wf (m : Memory) : Prop :=
  m.Pairwise (fun c d => c.1 < d.1) ∧ ∀ c ∈ m, isCell c.1 = true ∧ c.2 ≠ Memory.unlisted c.1

/-! ## The router -/

/-- The regions of the address space (R41), the program ROM's two images apart (R49). -/
inductive Region where
  | ram
  | ppuRegisters
  | io
  | cartLow
  | prg
  | prgMirror
  deriving DecidableEq, Repr

/-- The region of an address (R41). -/
def regionOf (addr : Word) : Region :=
  if addr < config.ramMirrorEnd then .ram
  else if addr < config.ppuRegEnd then .ppuRegisters
  else if addr < config.ioEnd then .io
  else if addr < config.prgBase then .cartLow
  else if addr < config.prgMirror then .prg
  else .prgMirror

/-- The canonical address (R42). -/
def canon (addr : Word) : Word :=
  match regionOf addr with
  | .ram => addr &&& (config.ramSize - 1)
  | .ppuRegisters => config.ppuRegBase ||| (addr &&& (config.ppuRegCount - 1))
  | .io => addr
  | .cartLow => addr
  | .prg => config.prgBase ||| (addr &&& (config.prgSize - 1))
  | .prgMirror => config.prgBase ||| (addr &&& (config.prgSize - 1))

/-- The cell of the byte array behind an address. -/
def cellOf (addr : Word) : Nat := (canon addr).toNat

/-- The byte stored behind an address, looked at without any bus access. -/
def peek (s : State) (addr : Word) : Byte := s.mem.read (cellOf addr)

/-- Store a byte behind an address, without any bus access. -/
def poke (addr : Word) (v : Byte) (s : State) : State := s.withMem (s.mem.write (cellOf addr) v)

/-! ## The PPU register port -/

/-- The cell of PPU register `i` (R23, R46). -/
def ppuCell (i : Nat) : Nat := config.ppuRegBase.toNat + i

/-- The address of the PPU status register (R43). -/
def statusAddr : Word := config.ppuRegBase + 2

/-- The cell of the PPU status byte (R27). -/
def statusCell : Nat := ppuCell 2

/-- The PPU status byte (R27). -/
def ppuStatus (s : State) : Byte := s.mem.read statusCell

/-- `nmi_enable`, bit 7 of PPU register 0 (R28, R334). -/
def nmiEnable (s : State) : Bool := (s.mem.read (ppuCell 0)).getLsbD 7

/-- `rendering_enabled`, bit 3 or bit 4 of PPU register 1 (R28). -/
def renderingEnabled (s : State) : Bool := (s.mem.read (ppuCell 1)).getLsbD 3 || (s.mem.read (ppuCell 1)).getLsbD 4

/-- The masks of the three status flags (R327). -/
def maskVBlank : Byte := 0x80
/-- See `maskVBlank`. -/
def maskSprite0Hit : Byte := 0x40
/-- See `maskVBlank`. -/
def maskSpriteOverflow : Byte := 0x20

/-- Write the status byte. -/
def setStatus (v : Byte) (s : State) : State := s.withMem (s.mem.write statusCell v)

/-- `clearStatus(flag)` (R327): mask one flag out of the status byte. -/
def clearStatus (mask : Byte) (s : State) : State := setStatus (ppuStatus s &&& ~~~mask) s

/-- The side effects of a status read (R329): the race of R330, VBlank cleared, `w` reset. -/
def statusReadEffects (s : State) : State :=
  let race := decide ((s.scanline, s.cycle) = vblRaceAt)
  { clearStatus maskVBlank s with
    suppressVbl := race || s.suppressVbl
    suppressNmi := race || s.suppressNmi
    w := false }

/-- Register write (R332): the status register ignores it, registers 5 and 6 also flip `w` (R331). `i` is `addr & 7`. -/
def ppuRegisterWrite (i : Nat) (v : Byte) (s : State) : State :=
  if i = 2 then s
  else
    let s' := s.withMem (s.mem.write (ppuCell i) v)
    if i = 5 ∨ i = 6 then { s' with w := !s.w } else s'

/-! ## The two bus operations -/

/-- `MemRead(addr, 1)` (R43): the byte and the state after the read. -/
def memRead (addr : Word) (s : State) : Byte × State :=
  if canon addr = statusAddr then (ppuStatus s, statusReadEffects s) else (peek s addr, s)

/-- `MemWrite(addr, 1, v)` (R44). -/
def memWrite (addr : Word) (v : Byte) (s : State) : State :=
  match regionOf addr with
  | .ram => poke addr v s
  | .ppuRegisters => ppuRegisterWrite (addr &&& (config.ppuRegCount - 1)).toNat v s
  | .io => poke addr v s
  | .cartLow => poke addr v s
  | .prg => s
  | .prgMirror => s

/-- `Read16(addr)` (R52): low byte first, high byte from the next address modulo 0x10000. -/
def read16 (addr : Word) (s : State) : Word × State :=
  let l := memRead addr s
  let h := memRead (addr + 1) l.2
  (word h.1 l.1, h.2)

/-! ## The stack -/

/-- The stack address of a stack pointer (R13). -/
def stackAddr (sp : Byte) : Word := word config.stackPage sp

/-- `push(v)` (R120). -/
def push (v : Byte) (s : State) : State := (memWrite (stackAddr s.sp) v s).withSp (s.sp - 1)

/-- `pull()` (R121). -/
def pull (s : State) : Byte × State := memRead (stackAddr (s.sp + 1)) (s.withSp (s.sp + 1))

/-- Push a word, high byte first (R52, R171, R198, R307). -/
def pushWord (v : Word) (s : State) : State := push (lo8 v) (push (hi8 v) s)

/-- Pull a word, low byte first (R52, R172, R199). -/
def pullWord (s : State) : Word × State :=
  let l := pull s
  let h := pull l.2
  (word h.1 l.1, h.2)

/-! ## Interrupts -/

/-- Interrupt entry, shared by BRK (R198) and the NMI (R307): push the return address and a status byte, set I, go through the
vector. It takes 7 cycles. -/
def interruptEntry (ret : Word) (status : Byte) (vector : Word) (s : State) : State :=
  let s1 := push status (pushWord ret s)
  let t := read16 vector (s1.withP (setI true s1.p))
  (t.2.withPc t.1).withCycles 7

/-- Return from interrupt (R199): status with bits 5, 4 forced to 1, 0, then the return address, without increment. -/
def interruptReturn (s : State) : State :=
  let v := pull s
  let t := pullWord (v.2.withP (statusPulled v.1))
  t.2.withPc t.1

/-- NMI entry (R307): the latch is consumed, `pc` is the address of the instruction not yet executed. -/
def nmiEntry (s : State) : State :=
  interruptEntry s.pc (statusFromNmi s.p) config.vecNmi { s with nmiPending := false }

end Sys2Proof.Machine
end

