-- ==== Sys2Proof/Machine/Operands.lean ====
section
/-! DEFINITION. The addressing modes (R73 to R86) over operand bytes already fetched: at entry `pc` is the address of the
instruction after the one that runs. Branch offsets (REL) and jump pointers (IND) included. -/

namespace Sys2Proof.Machine

/-- The memory addressing modes with their operand bytes (R76 to R81, R83, R84). -/
inductive MemMode where
  | zp (z : Byte)
  | zpx (z : Byte)
  | zpy (z : Byte)
  | abs (addr : Word)
  | abx (addr : Word)
  | aby (addr : Word)
  | izx (z : Byte)
  | izy (z : Byte)
  deriving DecidableEq, Repr

/-- The operand of a read-type instruction (R86): an immediate byte (R75) or a byte in memory. -/
inductive Source where
  | imm (v : Byte)
  | mem (m : MemMode)
  deriving DecidableEq, Repr

/-- What an addressing-mode handler gives: effective address, the page-cross bit, and the state after its pointer reads. -/
structure Located where
  ea      : Word
  crossed : Bool
  state   : State
  deriving DecidableEq, Repr

/-- The word a zero-page pointer holds; its high byte also comes from page 0 (R83, R84, D27). -/
def zpPointer (z : Byte) (s : State) : Word × State :=
  let l := memRead (zext16 z) s
  let h := memRead (zext16 (z + 1)) l.2
  (word h.1 l.1, h.2)

/-- Index a base address: the sum wraps modulo 0x10000, `crossed` compares the pages (R80, R81, R84). -/
def indexed (base : Word) (index : Byte) (s : State) : Located :=
  { ea := base + zext16 index, crossed := pageCrossed (base + zext16 index) base, state := s }

/-- The effective address of a memory mode (R76 to R84). -/
def locate (m : MemMode) (s : State) : Located :=
  match m with
  | .zp z => { ea := zext16 z, crossed := false, state := s }
  | .zpx z => { ea := zext16 (z + s.x), crossed := false, state := s }
  | .zpy z => { ea := zext16 (z + s.y), crossed := false, state := s }
  | .abs addr => { ea := addr, crossed := false, state := s }
  | .abx addr => indexed addr s.x s
  | .aby addr => indexed addr s.y s
  | .izx z => let t := zpPointer (z + s.x) s; { ea := t.1, crossed := false, state := t.2 }
  | .izy z => let t := zpPointer z s; indexed t.1 s.y t.2

/-- An operand byte, the page-cross bit, and the state after the reads. -/
structure Operand where
  value   : Byte
  crossed : Bool
  state   : State
  deriving DecidableEq, Repr

/-- Read the operand of a read-type instruction, once (R86). -/
def readSource (src : Source) (s : State) : Operand :=
  match src with
  | .imm v => { value := v, crossed := false, state := s }
  | .mem m =>
    let l := locate m s
    let b := memRead l.ea l.state
    { value := b.1, crossed := l.crossed, state := b.2 }

/-- IND (R82): the word at a pointer, whose high byte is fetched without carry into the pointer's page. -/
def indirectTarget (ptr : Word) (s : State) : Word × State :=
  let l := memRead ptr s
  let h := memRead (word (hi8 ptr) (lo8 ptr + 1)) l.2
  (word h.1 l.1, h.2)

/-- REL (R85): the target of a branch with `pc` at the following instruction. -/
def relativeTarget (off : Byte) (s : State) : Word := s.pc + sext16 off

/-! ## How instructions use their operand (R86) -/

/-- The answer of every meaning: `cycleCount` set, the next state. -/
def done (cycles : Nat) (s : State) : Host.Outcome State Fault Refusal := .next (s.withCycles cycles)

/-- A read-type instruction: `f` takes the operand byte and the state after the read; a crossed page costs one cycle (R87, R88). -/
def withSource (cycles : Nat) (src : Source) (f : Byte → State → State) (s : State) : Host.Outcome State Fault Refusal :=
  let o := readSource src s
  done (cycles + o.crossed.toNat) (f o.value o.state)

/-- A store-type instruction: one write, fixed cost (R86, R88). -/
def storeAt (cycles : Nat) (m : MemMode) (v : Byte) (s : State) : Host.Outcome State Fault Refusal :=
  let l := locate m s
  done cycles (memWrite l.ea v l.state)

/-- A read-modify-write instruction on memory: one read, one write, fixed cost (R86, R88). -/
def modifyAt (cycles : Nat) (m : MemMode) (f : Byte → Byte → Alu) (s : State) : Host.Outcome State Fault Refusal :=
  let l := locate m s
  let b := memRead l.ea l.state
  let t := f b.1 s.p
  done cycles ((memWrite l.ea t.r b.2).withP t.p)

/-- A shift in ACC mode (R74, R86). -/
def modifyA (cycles : Nat) (f : Byte → Byte → Alu) (s : State) : Host.Outcome State Fault Refusal :=
  let t := f s.a s.p
  done cycles ((s.withA t.r).withP t.p)

/-- A conditional branch (R180): one cycle more when taken, two when taken to another page (R87). -/
def branch (cycles : Nat) (cond : Bool) (off : Byte) (s : State) : Host.Outcome State Fault Refusal :=
  let target := relativeTarget off s
  if cond then done (cycles + 1 + (pageCrossed target s.pc).toNat) (s.withPc target) else done cycles s

/-- A skip opcode (R200): `pc` is the opcode address + 1; the operand bytes are passed over unread. -/
def skipBytes (length cycles : Nat) (s : State) : Host.Outcome State Fault Refusal :=
  done cycles (s.withPc (s.pc + BitVec.ofNat 16 (length - 1)))

/-- A skip opcode with the length and cycles of its row of SKIP_TABLE (R90, R200). Without a row it is an unknown opcode, which the
decoder gives to no meaning; it then counts as one byte and no cycle. -/
def skipOpcode (op : Byte) (s : State) : Host.Outcome State Fault Refusal :=
  let r := (skipRow? op).getD ⟨op, 1, 0⟩
  skipBytes r.length r.cycles s

end Sys2Proof.Machine
end

