-- ==== Sys2Proof/Machine/Arith.lean ====
section
/-! DEFINITION. The meanings of ADC, SBC, CMP, CPX, CPY (44_arithmetic.md), each over the shared operations. -/

namespace Sys2Proof.Machine

/-- ADC (R144): the sum into `a` with its flags. -/
def adcA (m : Byte) (s : State) : State := let t := adc s.a m s.p; (s.withA t.r).withP t.p
/-- SBC (R145): the difference into `a` with its flags. -/
def sbcA (m : Byte) (s : State) : State := let t := sbc s.a m s.p; (s.withA t.r).withP t.p
/-- CMP (R146): flags only. -/
def cmpA (m : Byte) (s : State) : State := s.withP (compareFlags s.a m s.p)
/-- CPX (R147): flags only. -/
def cmpX (m : Byte) (s : State) : State := s.withP (compareFlags s.x m s.p)
/-- CPY (R148): flags only. -/
def cmpY (m : Byte) (s : State) : State := s.withP (compareFlags s.y m s.p)

/-- ADC IMM (R144): 2 cycles. -/
def execAdcImm (v : Byte) (s : State) : Host.Outcome State Fault Refusal :=
  withSource (baseCycles 0x69) (.imm v) adcA s
/-- ADC ZP (R144): 3 cycles. -/
def execAdcZp (z : Byte) (s : State) : Host.Outcome State Fault Refusal :=
  withSource (baseCycles 0x65) (.mem (.zp z)) adcA s
/-- ADC ZPX (R144): 4 cycles. -/
def execAdcZpx (z : Byte) (s : State) : Host.Outcome State Fault Refusal :=
  withSource (baseCycles 0x75) (.mem (.zpx z)) adcA s
/-- ADC ABS (R144): 4 cycles. -/
def execAdcAbs (addr : Word) (s : State) : Host.Outcome State Fault Refusal :=
  withSource (baseCycles 0x6D) (.mem (.abs addr)) adcA s
/-- ADC ABX (R144): 4 cycles, one more if the page is crossed. -/
def execAdcAbx (addr : Word) (s : State) : Host.Outcome State Fault Refusal :=
  withSource (baseCycles 0x7D) (.mem (.abx addr)) adcA s
/-- ADC ABY (R144): 4 cycles, one more if the page is crossed. -/
def execAdcAby (addr : Word) (s : State) : Host.Outcome State Fault Refusal :=
  withSource (baseCycles 0x79) (.mem (.aby addr)) adcA s
/-- ADC IZX (R144): 6 cycles. -/
def execAdcIzx (z : Byte) (s : State) : Host.Outcome State Fault Refusal :=
  withSource (baseCycles 0x61) (.mem (.izx z)) adcA s
/-- ADC IZY (R144): 5 cycles, one more if the page is crossed. -/
def execAdcIzy (z : Byte) (s : State) : Host.Outcome State Fault Refusal :=
  withSource (baseCycles 0x71) (.mem (.izy z)) adcA s

/-- SBC IMM (R145): 2 cycles. -/
def execSbcImm (v : Byte) (s : State) : Host.Outcome State Fault Refusal :=
  withSource (baseCycles 0xE9) (.imm v) sbcA s
/-- SBC ZP (R145): 3 cycles. -/
def execSbcZp (z : Byte) (s : State) : Host.Outcome State Fault Refusal :=
  withSource (baseCycles 0xE5) (.mem (.zp z)) sbcA s
/-- SBC ZPX (R145): 4 cycles. -/
def execSbcZpx (z : Byte) (s : State) : Host.Outcome State Fault Refusal :=
  withSource (baseCycles 0xF5) (.mem (.zpx z)) sbcA s
/-- SBC ABS (R145): 4 cycles. -/
def execSbcAbs (addr : Word) (s : State) : Host.Outcome State Fault Refusal :=
  withSource (baseCycles 0xED) (.mem (.abs addr)) sbcA s
/-- SBC ABX (R145): 4 cycles, one more if the page is crossed. -/
def execSbcAbx (addr : Word) (s : State) : Host.Outcome State Fault Refusal :=
  withSource (baseCycles 0xFD) (.mem (.abx addr)) sbcA s
/-- SBC ABY (R145): 4 cycles, one more if the page is crossed. -/
def execSbcAby (addr : Word) (s : State) : Host.Outcome State Fault Refusal :=
  withSource (baseCycles 0xF9) (.mem (.aby addr)) sbcA s
/-- SBC IZX (R145): 6 cycles. -/
def execSbcIzx (z : Byte) (s : State) : Host.Outcome State Fault Refusal :=
  withSource (baseCycles 0xE1) (.mem (.izx z)) sbcA s
/-- SBC IZY (R145): 5 cycles, one more if the page is crossed. -/
def execSbcIzy (z : Byte) (s : State) : Host.Outcome State Fault Refusal :=
  withSource (baseCycles 0xF1) (.mem (.izy z)) sbcA s

/-- CMP IMM (R146): 2 cycles. -/
def execCmpImm (v : Byte) (s : State) : Host.Outcome State Fault Refusal :=
  withSource (baseCycles 0xC9) (.imm v) cmpA s
/-- CMP ZP (R146): 3 cycles. -/
def execCmpZp (z : Byte) (s : State) : Host.Outcome State Fault Refusal :=
  withSource (baseCycles 0xC5) (.mem (.zp z)) cmpA s
/-- CMP ZPX (R146): 4 cycles. -/
def execCmpZpx (z : Byte) (s : State) : Host.Outcome State Fault Refusal :=
  withSource (baseCycles 0xD5) (.mem (.zpx z)) cmpA s
/-- CMP ABS (R146): 4 cycles. -/
def execCmpAbs (addr : Word) (s : State) : Host.Outcome State Fault Refusal :=
  withSource (baseCycles 0xCD) (.mem (.abs addr)) cmpA s
/-- CMP ABX (R146): 4 cycles, one more if the page is crossed. -/
def execCmpAbx (addr : Word) (s : State) : Host.Outcome State Fault Refusal :=
  withSource (baseCycles 0xDD) (.mem (.abx addr)) cmpA s
/-- CMP ABY (R146): 4 cycles, one more if the page is crossed. -/
def execCmpAby (addr : Word) (s : State) : Host.Outcome State Fault Refusal :=
  withSource (baseCycles 0xD9) (.mem (.aby addr)) cmpA s
/-- CMP IZX (R146): 6 cycles. -/
def execCmpIzx (z : Byte) (s : State) : Host.Outcome State Fault Refusal :=
  withSource (baseCycles 0xC1) (.mem (.izx z)) cmpA s
/-- CMP IZY (R146): 5 cycles, one more if the page is crossed. -/
def execCmpIzy (z : Byte) (s : State) : Host.Outcome State Fault Refusal :=
  withSource (baseCycles 0xD1) (.mem (.izy z)) cmpA s

/-- CPX IMM (R147): 2 cycles. -/
def execCpxImm (v : Byte) (s : State) : Host.Outcome State Fault Refusal :=
  withSource (baseCycles 0xE0) (.imm v) cmpX s
/-- CPX ZP (R147): 3 cycles. -/
def execCpxZp (z : Byte) (s : State) : Host.Outcome State Fault Refusal :=
  withSource (baseCycles 0xE4) (.mem (.zp z)) cmpX s
/-- CPX ABS (R147): 4 cycles. -/
def execCpxAbs (addr : Word) (s : State) : Host.Outcome State Fault Refusal :=
  withSource (baseCycles 0xEC) (.mem (.abs addr)) cmpX s

/-- CPY IMM (R148): 2 cycles. -/
def execCpyImm (v : Byte) (s : State) : Host.Outcome State Fault Refusal :=
  withSource (baseCycles 0xC0) (.imm v) cmpY s
/-- CPY ZP (R148): 3 cycles. -/
def execCpyZp (z : Byte) (s : State) : Host.Outcome State Fault Refusal :=
  withSource (baseCycles 0xC4) (.mem (.zp z)) cmpY s
/-- CPY ABS (R148): 4 cycles. -/
def execCpyAbs (addr : Word) (s : State) : Host.Outcome State Fault Refusal :=
  withSource (baseCycles 0xCC) (.mem (.abs addr)) cmpY s

end Sys2Proof.Machine
end

