-- ==== Sys2Proof/Machine/Branch.lean ====
section
/-! DEFINITION. The meanings of BCC, BCS, BEQ, BMI, BNE, BPL, BVC, BVS (48_branch.md), each over the shared operations. -/

namespace Sys2Proof.Machine

/-- BCC REL (R181): 2 cycles, 3 taken, 4 taken to another page. -/
def execBcc (off : Byte) (s : State) : Host.Outcome State Fault Refusal :=
  branch (baseCycles 0x90) (!flagC s.p) off s

/-- BCS REL (R182): 2 cycles, 3 taken, 4 taken to another page. -/
def execBcs (off : Byte) (s : State) : Host.Outcome State Fault Refusal :=
  branch (baseCycles 0xB0) (flagC s.p) off s

/-- BEQ REL (R183): 2 cycles, 3 taken, 4 taken to another page. -/
def execBeq (off : Byte) (s : State) : Host.Outcome State Fault Refusal :=
  branch (baseCycles 0xF0) (flagZ s.p) off s

/-- BMI REL (R184): 2 cycles, 3 taken, 4 taken to another page. -/
def execBmi (off : Byte) (s : State) : Host.Outcome State Fault Refusal :=
  branch (baseCycles 0x30) (flagN s.p) off s

/-- BNE REL (R185): 2 cycles, 3 taken, 4 taken to another page. -/
def execBne (off : Byte) (s : State) : Host.Outcome State Fault Refusal :=
  branch (baseCycles 0xD0) (!flagZ s.p) off s

/-- BPL REL (R186): 2 cycles, 3 taken, 4 taken to another page. -/
def execBpl (off : Byte) (s : State) : Host.Outcome State Fault Refusal :=
  branch (baseCycles 0x10) (!flagN s.p) off s

/-- BVC REL (R187): 2 cycles, 3 taken, 4 taken to another page. -/
def execBvc (off : Byte) (s : State) : Host.Outcome State Fault Refusal :=
  branch (baseCycles 0x50) (!flagV s.p) off s

/-- BVS REL (R188): 2 cycles, 3 taken, 4 taken to another page. -/
def execBvs (off : Byte) (s : State) : Host.Outcome State Fault Refusal :=
  branch (baseCycles 0x70) (flagV s.p) off s

end Sys2Proof.Machine
end

