-- ==== Sys2Proof/Machine/FlagSystem.lean ====
section
/-! DEFINITION. The meanings of CLC, CLD, CLI, CLV, SEC, SED, SEI, NOP, BRK, RTI (49_flags_system.md), each over the shared operations. -/

namespace Sys2Proof.Machine

/-- CLC IMP (R190): 2 cycles. -/
def execClc (s : State) : Host.Outcome State Fault Refusal :=
  done (baseCycles 0x18) (s.withP (setC false s.p))

/-- CLD IMP (R191): 2 cycles. -/
def execCld (s : State) : Host.Outcome State Fault Refusal :=
  done (baseCycles 0xD8) (s.withP (setD false s.p))

/-- CLI IMP (R192): 2 cycles. -/
def execCli (s : State) : Host.Outcome State Fault Refusal :=
  done (baseCycles 0x58) (s.withP (setI false s.p))

/-- CLV IMP (R193): 2 cycles. -/
def execClv (s : State) : Host.Outcome State Fault Refusal :=
  done (baseCycles 0xB8) (s.withP (setV false s.p))

/-- SEC IMP (R194): 2 cycles. -/
def execSec (s : State) : Host.Outcome State Fault Refusal :=
  done (baseCycles 0x38) (s.withP (setC true s.p))

/-- SED IMP (R195): 2 cycles. -/
def execSed (s : State) : Host.Outcome State Fault Refusal :=
  done (baseCycles 0xF8) (s.withP (setD true s.p))

/-- SEI IMP (R196): 2 cycles. -/
def execSei (s : State) : Host.Outcome State Fault Refusal :=
  done (baseCycles 0x78) (s.withP (setI true s.p))

/-- NOP IMP (R197): 2 cycles. -/
def execNop (s : State) : Host.Outcome State Fault Refusal :=
  done (baseCycles 0xEA) s

/-- BRK IMP (R198): 7 cycles. -/
def execBrk (s : State) : Host.Outcome State Fault Refusal :=
  done (baseCycles 0x00) (interruptEntry (s.pc + 1) (statusFromInstr s.p) config.vecIrqBrk s)

/-- RTI IMP (R199): 6 cycles. -/
def execRti (s : State) : Host.Outcome State Fault Refusal :=
  done (baseCycles 0x40) (interruptReturn s)

end Sys2Proof.Machine
end

