-- ==== Sys2Proof/Machine/IncDec.lean ====
section
/-! DEFINITION. The meanings of INC, DEC, INX, INY, DEX, DEY (45_incdec.md), each over the shared operations. -/

namespace Sys2Proof.Machine

/-- INC ZP (R150): 5 cycles. -/
def execIncZp (z : Byte) (s : State) : Host.Outcome State Fault Refusal :=
  modifyAt (baseCycles 0xE6) (.zp z) incr s
/-- INC ZPX (R150): 6 cycles. -/
def execIncZpx (z : Byte) (s : State) : Host.Outcome State Fault Refusal :=
  modifyAt (baseCycles 0xF6) (.zpx z) incr s
/-- INC ABS (R150): 6 cycles. -/
def execIncAbs (addr : Word) (s : State) : Host.Outcome State Fault Refusal :=
  modifyAt (baseCycles 0xEE) (.abs addr) incr s
/-- INC ABX (R150): 7 cycles. -/
def execIncAbx (addr : Word) (s : State) : Host.Outcome State Fault Refusal :=
  modifyAt (baseCycles 0xFE) (.abx addr) incr s

/-- DEC ZP (R151): 5 cycles. -/
def execDecZp (z : Byte) (s : State) : Host.Outcome State Fault Refusal :=
  modifyAt (baseCycles 0xC6) (.zp z) decr s
/-- DEC ZPX (R151): 6 cycles. -/
def execDecZpx (z : Byte) (s : State) : Host.Outcome State Fault Refusal :=
  modifyAt (baseCycles 0xD6) (.zpx z) decr s
/-- DEC ABS (R151): 6 cycles. -/
def execDecAbs (addr : Word) (s : State) : Host.Outcome State Fault Refusal :=
  modifyAt (baseCycles 0xCE) (.abs addr) decr s
/-- DEC ABX (R151): 7 cycles. -/
def execDecAbx (addr : Word) (s : State) : Host.Outcome State Fault Refusal :=
  modifyAt (baseCycles 0xDE) (.abx addr) decr s

/-- INX IMP (R152): 2 cycles. -/
def execInx (s : State) : Host.Outcome State Fault Refusal :=
  let t := incr s.x s.p; done (baseCycles 0xE8) ((s.withX t.r).withP t.p)

/-- INY IMP (R153): 2 cycles. -/
def execIny (s : State) : Host.Outcome State Fault Refusal :=
  let t := incr s.y s.p; done (baseCycles 0xC8) ((s.withY t.r).withP t.p)

/-- DEX IMP (R154): 2 cycles. -/
def execDex (s : State) : Host.Outcome State Fault Refusal :=
  let t := decr s.x s.p; done (baseCycles 0xCA) ((s.withX t.r).withP t.p)

/-- DEY IMP (R155): 2 cycles. -/
def execDey (s : State) : Host.Outcome State Fault Refusal :=
  let t := decr s.y s.p; done (baseCycles 0x88) ((s.withY t.r).withP t.p)

end Sys2Proof.Machine
end

