-- ==== Sys2Proof/Machine/Jump.lean ====
section
/-! DEFINITION. The meanings of JMP, JSR, RTS (47_jump_call.md), each over the shared operations. -/

namespace Sys2Proof.Machine

/-- JMP ABS (R170): 3 cycles. -/
def execJmpAbs (addr : Word) (s : State) : Host.Outcome State Fault Refusal :=
  done (baseCycles 0x4C) (s.withPc addr)
/-- JMP IND (R170): 5 cycles. -/
def execJmpInd (ptr : Word) (s : State) : Host.Outcome State Fault Refusal :=
  let t := indirectTarget ptr s; done (baseCycles 0x6C) (t.2.withPc t.1)

/-- JSR ABS (R171): 6 cycles. -/
def execJsr (addr : Word) (s : State) : Host.Outcome State Fault Refusal :=
  done (baseCycles 0x20) ((pushWord (s.pc - 1) s).withPc addr)

/-- RTS IMP (R172): 6 cycles. -/
def execRts (s : State) : Host.Outcome State Fault Refusal :=
  let t := pullWord s; done (baseCycles 0x60) (t.2.withPc (t.1 + 1))

end Sys2Proof.Machine
end

