-- ==== Sys2Proof/Machine/LoadStore.lean ====
section
/-! DEFINITION. The meanings of LDA, LDX, LDY, STA, STX, STY (40_load_store.md), each over the shared operations. -/

namespace Sys2Proof.Machine

/-- LDA IMM (R100): 2 cycles. -/
def execLdaImm (v : Byte) (s : State) : Host.Outcome State Fault Refusal :=
  withSource (baseCycles 0xA9) (.imm v) writeA s
/-- LDA ZP (R100): 3 cycles. -/
def execLdaZp (z : Byte) (s : State) : Host.Outcome State Fault Refusal :=
  withSource (baseCycles 0xA5) (.mem (.zp z)) writeA s
/-- LDA ZPX (R100): 4 cycles. -/
def execLdaZpx (z : Byte) (s : State) : Host.Outcome State Fault Refusal :=
  withSource (baseCycles 0xB5) (.mem (.zpx z)) writeA s
/-- LDA ABS (R100): 4 cycles. -/
def execLdaAbs (addr : Word) (s : State) : Host.Outcome State Fault Refusal :=
  withSource (baseCycles 0xAD) (.mem (.abs addr)) writeA s
/-- LDA ABX (R100): 4 cycles, one more if the page is crossed. -/
def execLdaAbx (addr : Word) (s : State) : Host.Outcome State Fault Refusal :=
  withSource (baseCycles 0xBD) (.mem (.abx addr)) writeA s
/-- LDA ABY (R100): 4 cycles, one more if the page is crossed. -/
def execLdaAby (addr : Word) (s : State) : Host.Outcome State Fault Refusal :=
  withSource (baseCycles 0xB9) (.mem (.aby addr)) writeA s
/-- LDA IZX (R100): 6 cycles. -/
def execLdaIzx (z : Byte) (s : State) : Host.Outcome State Fault Refusal :=
  withSource (baseCycles 0xA1) (.mem (.izx z)) writeA s
/-- LDA IZY (R100): 5 cycles, one more if the page is crossed. -/
def execLdaIzy (z : Byte) (s : State) : Host.Outcome State Fault Refusal :=
  withSource (baseCycles 0xB1) (.mem (.izy z)) writeA s

/-- LDX IMM (R101): 2 cycles. -/
def execLdxImm (v : Byte) (s : State) : Host.Outcome State Fault Refusal :=
  withSource (baseCycles 0xA2) (.imm v) writeX s
/-- LDX ZP (R101): 3 cycles. -/
def execLdxZp (z : Byte) (s : State) : Host.Outcome State Fault Refusal :=
  withSource (baseCycles 0xA6) (.mem (.zp z)) writeX s
/-- LDX ZPY (R101): 4 cycles. -/
def execLdxZpy (z : Byte) (s : State) : Host.Outcome State Fault Refusal :=
  withSource (baseCycles 0xB6) (.mem (.zpy z)) writeX s
/-- LDX ABS (R101): 4 cycles. -/
def execLdxAbs (addr : Word) (s : State) : Host.Outcome State Fault Refusal :=
  withSource (baseCycles 0xAE) (.mem (.abs addr)) writeX s
/-- LDX ABY (R101): 4 cycles, one more if the page is crossed. -/
def execLdxAby (addr : Word) (s : State) : Host.Outcome State Fault Refusal :=
  withSource (baseCycles 0xBE) (.mem (.aby addr)) writeX s

/-- LDY IMM (R102): 2 cycles. -/
def execLdyImm (v : Byte) (s : State) : Host.Outcome State Fault Refusal :=
  withSource (baseCycles 0xA0) (.imm v) writeY s
/-- LDY ZP (R102): 3 cycles. -/
def execLdyZp (z : Byte) (s : State) : Host.Outcome State Fault Refusal :=
  withSource (baseCycles 0xA4) (.mem (.zp z)) writeY s
/-- LDY ZPX (R102): 4 cycles. -/
def execLdyZpx (z : Byte) (s : State) : Host.Outcome State Fault Refusal :=
  withSource (baseCycles 0xB4) (.mem (.zpx z)) writeY s
/-- LDY ABS (R102): 4 cycles. -/
def execLdyAbs (addr : Word) (s : State) : Host.Outcome State Fault Refusal :=
  withSource (baseCycles 0xAC) (.mem (.abs addr)) writeY s
/-- LDY ABX (R102): 4 cycles, one more if the page is crossed. -/
def execLdyAbx (addr : Word) (s : State) : Host.Outcome State Fault Refusal :=
  withSource (baseCycles 0xBC) (.mem (.abx addr)) writeY s

/-- STA ZP (R103): 3 cycles. -/
def execStaZp (z : Byte) (s : State) : Host.Outcome State Fault Refusal :=
  storeAt (baseCycles 0x85) (.zp z) s.a s
/-- STA ZPX (R103): 4 cycles. -/
def execStaZpx (z : Byte) (s : State) : Host.Outcome State Fault Refusal :=
  storeAt (baseCycles 0x95) (.zpx z) s.a s
/-- STA ABS (R103): 4 cycles. -/
def execStaAbs (addr : Word) (s : State) : Host.Outcome State Fault Refusal :=
  storeAt (baseCycles 0x8D) (.abs addr) s.a s
/-- STA ABX (R103): 5 cycles. -/
def execStaAbx (addr : Word) (s : State) : Host.Outcome State Fault Refusal :=
  storeAt (baseCycles 0x9D) (.abx addr) s.a s
/-- STA ABY (R103): 5 cycles. -/
def execStaAby (addr : Word) (s : State) : Host.Outcome State Fault Refusal :=
  storeAt (baseCycles 0x99) (.aby addr) s.a s
/-- STA IZX (R103): 6 cycles. -/
def execStaIzx (z : Byte) (s : State) : Host.Outcome State Fault Refusal :=
  storeAt (baseCycles 0x81) (.izx z) s.a s
/-- STA IZY (R103): 6 cycles. -/
def execStaIzy (z : Byte) (s : State) : Host.Outcome State Fault Refusal :=
  storeAt (baseCycles 0x91) (.izy z) s.a s

/-- STX ZP (R104): 3 cycles. -/
def execStxZp (z : Byte) (s : State) : Host.Outcome State Fault Refusal :=
  storeAt (baseCycles 0x86) (.zp z) s.x s
/-- STX ZPY (R104): 4 cycles. -/
def execStxZpy (z : Byte) (s : State) : Host.Outcome State Fault Refusal :=
  storeAt (baseCycles 0x96) (.zpy z) s.x s
/-- STX ABS (R104): 4 cycles. -/
def execStxAbs (addr : Word) (s : State) : Host.Outcome State Fault Refusal :=
  storeAt (baseCycles 0x8E) (.abs addr) s.x s

/-- STY ZP (R105): 3 cycles. -/
def execStyZp (z : Byte) (s : State) : Host.Outcome State Fault Refusal :=
  storeAt (baseCycles 0x84) (.zp z) s.y s
/-- STY ZPX (R105): 4 cycles. -/
def execStyZpx (z : Byte) (s : State) : Host.Outcome State Fault Refusal :=
  storeAt (baseCycles 0x94) (.zpx z) s.y s
/-- STY ABS (R105): 4 cycles. -/
def execStyAbs (addr : Word) (s : State) : Host.Outcome State Fault Refusal :=
  storeAt (baseCycles 0x8C) (.abs addr) s.y s

end Sys2Proof.Machine
end

