-- ==== Sys2Proof/Machine/Logic.lean ====
section
/-! DEFINITION. The meanings of AND, ORA, EOR, BIT (43_logic.md), each over the shared operations. -/

namespace Sys2Proof.Machine

/-- AND (R130): the operand combined into `a`. -/
def andA (m : Byte) (s : State) : State := writeA (s.a &&& m) s
/-- ORA (R131). -/
def oraA (m : Byte) (s : State) : State := writeA (s.a ||| m) s
/-- EOR (R132). -/
def eorA (m : Byte) (s : State) : State := writeA (s.a ^^^ m) s
/-- BIT (R133): flags only. -/
def bitTest (m : Byte) (s : State) : State := s.withP (bitFlags s.a m s.p)

/-- AND IMM (R130): 2 cycles. -/
def execAndImm (v : Byte) (s : State) : Host.Outcome State Fault Refusal :=
  withSource (baseCycles 0x29) (.imm v) andA s
/-- AND ZP (R130): 3 cycles. -/
def execAndZp (z : Byte) (s : State) : Host.Outcome State Fault Refusal :=
  withSource (baseCycles 0x25) (.mem (.zp z)) andA s
/-- AND ZPX (R130): 4 cycles. -/
def execAndZpx (z : Byte) (s : State) : Host.Outcome State Fault Refusal :=
  withSource (baseCycles 0x35) (.mem (.zpx z)) andA s
/-- AND ABS (R130): 4 cycles. -/
def execAndAbs (addr : Word) (s : State) : Host.Outcome State Fault Refusal :=
  withSource (baseCycles 0x2D) (.mem (.abs addr)) andA s
/-- AND ABX (R130): 4 cycles, one more if the page is crossed. -/
def execAndAbx (addr : Word) (s : State) : Host.Outcome State Fault Refusal :=
  withSource (baseCycles 0x3D) (.mem (.abx addr)) andA s
/-- AND ABY (R130): 4 cycles, one more if the page is crossed. -/
def execAndAby (addr : Word) (s : State) : Host.Outcome State Fault Refusal :=
  withSource (baseCycles 0x39) (.mem (.aby addr)) andA s
/-- AND IZX (R130): 6 cycles. -/
def execAndIzx (z : Byte) (s : State) : Host.Outcome State Fault Refusal :=
  withSource (baseCycles 0x21) (.mem (.izx z)) andA s
/-- AND IZY (R130): 5 cycles, one more if the page is crossed. -/
def execAndIzy (z : Byte) (s : State) : Host.Outcome State Fault Refusal :=
  withSource (baseCycles 0x31) (.mem (.izy z)) andA s

/-- ORA IMM (R131): 2 cycles. -/
def execOraImm (v : Byte) (s : State) : Host.Outcome State Fault Refusal :=
  withSource (baseCycles 0x09) (.imm v) oraA s
/-- ORA ZP (R131): 3 cycles. -/
def execOraZp (z : Byte) (s : State) : Host.Outcome State Fault Refusal :=
  withSource (baseCycles 0x05) (.mem (.zp z)) oraA s
/-- ORA ZPX (R131): 4 cycles. -/
def execOraZpx (z : Byte) (s : State) : Host.Outcome State Fault Refusal :=
  withSource (baseCycles 0x15) (.mem (.zpx z)) oraA s
/-- ORA ABS (R131): 4 cycles. -/
def execOraAbs (addr : Word) (s : State) : Host.Outcome State Fault Refusal :=
  withSource (baseCycles 0x0D) (.mem (.abs addr)) oraA s
/-- ORA ABX (R131): 4 cycles, one more if the page is crossed. -/
def execOraAbx (addr : Word) (s : State) : Host.Outcome State Fault Refusal :=
  withSource (baseCycles 0x1D) (.mem (.abx addr)) oraA s
/-- ORA ABY (R131): 4 cycles, one more if the page is crossed. -/
def execOraAby (addr : Word) (s : State) : Host.Outcome State Fault Refusal :=
  withSource (baseCycles 0x19) (.mem (.aby addr)) oraA s
/-- ORA IZX (R131): 6 cycles. -/
def execOraIzx (z : Byte) (s : State) : Host.Outcome State Fault Refusal :=
  withSource (baseCycles 0x01) (.mem (.izx z)) oraA s
/-- ORA IZY (R131): 5 cycles, one more if the page is crossed. -/
def execOraIzy (z : Byte) (s : State) : Host.Outcome State Fault Refusal :=
  withSource (baseCycles 0x11) (.mem (.izy z)) oraA s

/-- EOR IMM (R132): 2 cycles. -/
def execEorImm (v : Byte) (s : State) : Host.Outcome State Fault Refusal :=
  withSource (baseCycles 0x49) (.imm v) eorA s
/-- EOR ZP (R132): 3 cycles. -/
def execEorZp (z : Byte) (s : State) : Host.Outcome State Fault Refusal :=
  withSource (baseCycles 0x45) (.mem (.zp z)) eorA s
/-- EOR ZPX (R132): 4 cycles. -/
def execEorZpx (z : Byte) (s : State) : Host.Outcome State Fault Refusal :=
  withSource (baseCycles 0x55) (.mem (.zpx z)) eorA s
/-- EOR ABS (R132): 4 cycles. -/
def execEorAbs (addr : Word) (s : State) : Host.Outcome State Fault Refusal :=
  withSource (baseCycles 0x4D) (.mem (.abs addr)) eorA s
/-- EOR ABX (R132): 4 cycles, one more if the page is crossed. -/
def execEorAbx (addr : Word) (s : State) : Host.Outcome State Fault Refusal :=
  withSource (baseCycles 0x5D) (.mem (.abx addr)) eorA s
/-- EOR ABY (R132): 4 cycles, one more if the page is crossed. -/
def execEorAby (addr : Word) (s : State) : Host.Outcome State Fault Refusal :=
  withSource (baseCycles 0x59) (.mem (.aby addr)) eorA s
/-- EOR IZX (R132): 6 cycles. -/
def execEorIzx (z : Byte) (s : State) : Host.Outcome State Fault Refusal :=
  withSource (baseCycles 0x41) (.mem (.izx z)) eorA s
/-- EOR IZY (R132): 5 cycles, one more if the page is crossed. -/
def execEorIzy (z : Byte) (s : State) : Host.Outcome State Fault Refusal :=
  withSource (baseCycles 0x51) (.mem (.izy z)) eorA s

/-- BIT ZP (R133): 3 cycles. -/
def execBitZp (z : Byte) (s : State) : Host.Outcome State Fault Refusal :=
  withSource (baseCycles 0x24) (.mem (.zp z)) bitTest s
/-- BIT ABS (R133): 4 cycles. -/
def execBitAbs (addr : Word) (s : State) : Host.Outcome State Fault Refusal :=
  withSource (baseCycles 0x2C) (.mem (.abs addr)) bitTest s

end Sys2Proof.Machine
end

