-- ==== Sys2Proof/Machine/Shift.lean ====
section
/-! DEFINITION. The meanings of ASL, LSR, ROL, ROR (46_shift.md), each over the shared operations. -/

namespace Sys2Proof.Machine

/-- ASL ACC (R160): 2 cycles. -/
def execAslAcc (s : State) : Host.Outcome State Fault Refusal :=
  modifyA (baseCycles 0x0A) asl s
/-- ASL ZP (R160): 5 cycles. -/
def execAslZp (z : Byte) (s : State) : Host.Outcome State Fault Refusal :=
  modifyAt (baseCycles 0x06) (.zp z) asl s
/-- ASL ZPX (R160): 6 cycles. -/
def execAslZpx (z : Byte) (s : State) : Host.Outcome State Fault Refusal :=
  modifyAt (baseCycles 0x16) (.zpx z) asl s
/-- ASL ABS (R160): 6 cycles. -/
def execAslAbs (addr : Word) (s : State) : Host.Outcome State Fault Refusal :=
  modifyAt (baseCycles 0x0E) (.abs addr) asl s
/-- ASL ABX (R160): 7 cycles. -/
def execAslAbx (addr : Word) (s : State) : Host.Outcome State Fault Refusal :=
  modifyAt (baseCycles 0x1E) (.abx addr) asl s

/-- LSR ACC (R161): 2 cycles. -/
def execLsrAcc (s : State) : Host.Outcome State Fault Refusal :=
  modifyA (baseCycles 0x4A) lsr s
/-- LSR ZP (R161): 5 cycles. -/
def execLsrZp (z : Byte) (s : State) : Host.Outcome State Fault Refusal :=
  modifyAt (baseCycles 0x46) (.zp z) lsr s
/-- LSR ZPX (R161): 6 cycles. -/
def execLsrZpx (z : Byte) (s : State) : Host.Outcome State Fault Refusal :=
  modifyAt (baseCycles 0x56) (.zpx z) lsr s
/-- LSR ABS (R161): 6 cycles. -/
def execLsrAbs (addr : Word) (s : State) : Host.Outcome State Fault Refusal :=
  modifyAt (baseCycles 0x4E) (.abs addr) lsr s
/-- LSR ABX (R161): 7 cycles. -/
def execLsrAbx (addr : Word) (s : State) : Host.Outcome State Fault Refusal :=
  modifyAt (baseCycles 0x5E) (.abx addr) lsr s

/-- ROL ACC (R162): 2 cycles. -/
def execRolAcc (s : State) : Host.Outcome State Fault Refusal :=
  modifyA (baseCycles 0x2A) rol s
/-- ROL ZP (R162): 5 cycles. -/
def execRolZp (z : Byte) (s : State) : Host.Outcome State Fault Refusal :=
  modifyAt (baseCycles 0x26) (.zp z) rol s
/-- ROL ZPX (R162): 6 cycles. -/
def execRolZpx (z : Byte) (s : State) : Host.Outcome State Fault Refusal :=
  modifyAt (baseCycles 0x36) (.zpx z) rol s
/-- ROL ABS (R162): 6 cycles. -/
def execRolAbs (addr : Word) (s : State) : Host.Outcome State Fault Refusal :=
  modifyAt (baseCycles 0x2E) (.abs addr) rol s
/-- ROL ABX (R162): 7 cycles. -/
def execRolAbx (addr : Word) (s : State) : Host.Outcome State Fault Refusal :=
  modifyAt (baseCycles 0x3E) (.abx addr) rol s

/-- ROR ACC (R163): 2 cycles. -/
def execRorAcc (s : State) : Host.Outcome State Fault Refusal :=
  modifyA (baseCycles 0x6A) ror s
/-- ROR ZP (R163): 5 cycles. -/
def execRorZp (z : Byte) (s : State) : Host.Outcome State Fault Refusal :=
  modifyAt (baseCycles 0x66) (.zp z) ror s
/-- ROR ZPX (R163): 6 cycles. -/
def execRorZpx (z : Byte) (s : State) : Host.Outcome State Fault Refusal :=
  modifyAt (baseCycles 0x76) (.zpx z) ror s
/-- ROR ABS (R163): 6 cycles. -/
def execRorAbs (addr : Word) (s : State) : Host.Outcome State Fault Refusal :=
  modifyAt (baseCycles 0x6E) (.abs addr) ror s
/-- ROR ABX (R163): 7 cycles. -/
def execRorAbx (addr : Word) (s : State) : Host.Outcome State Fault Refusal :=
  modifyAt (baseCycles 0x7E) (.abx addr) ror s

end Sys2Proof.Machine
end

