-- ==== Sys2Proof/Machine/Skip.lean ====
section
/-! DEFINITION. The meanings of the skip opcodes (49_flags_system.md), each over the shared operations. -/

namespace Sys2Proof.Machine

/-- *NOP 0x04 ZP (R200): 3 cycles. -/
def execSkip04 (s : State) : Host.Outcome State Fault Refusal :=
  skipOpcode 0x04 s
/-- *NOP 0x0C ABS (R200): 4 cycles. -/
def execSkip0C (s : State) : Host.Outcome State Fault Refusal :=
  skipOpcode 0x0C s
/-- *NOP 0x14 ZPX (R200): 4 cycles. -/
def execSkip14 (s : State) : Host.Outcome State Fault Refusal :=
  skipOpcode 0x14 s
/-- *NOP 0x1A IMP (R200): 2 cycles. -/
def execSkip1A (s : State) : Host.Outcome State Fault Refusal :=
  skipOpcode 0x1A s
/-- *NOP 0x1C ABX (R200): 4 cycles. -/
def execSkip1C (s : State) : Host.Outcome State Fault Refusal :=
  skipOpcode 0x1C s
/-- *NOP 0x34 ZPX (R200): 4 cycles. -/
def execSkip34 (s : State) : Host.Outcome State Fault Refusal :=
  skipOpcode 0x34 s
/-- *NOP 0x3A IMP (R200): 2 cycles. -/
def execSkip3A (s : State) : Host.Outcome State Fault Refusal :=
  skipOpcode 0x3A s
/-- *NOP 0x3C ABX (R200): 4 cycles. -/
def execSkip3C (s : State) : Host.Outcome State Fault Refusal :=
  skipOpcode 0x3C s
/-- *NOP 0x44 ZP (R200): 3 cycles. -/
def execSkip44 (s : State) : Host.Outcome State Fault Refusal :=
  skipOpcode 0x44 s
/-- *NOP 0x54 ZPX (R200): 4 cycles. -/
def execSkip54 (s : State) : Host.Outcome State Fault Refusal :=
  skipOpcode 0x54 s
/-- *NOP 0x5A IMP (R200): 2 cycles. -/
def execSkip5A (s : State) : Host.Outcome State Fault Refusal :=
  skipOpcode 0x5A s
/-- *NOP 0x5C ABX (R200): 4 cycles. -/
def execSkip5C (s : State) : Host.Outcome State Fault Refusal :=
  skipOpcode 0x5C s
/-- *NOP 0x64 ZP (R200): 3 cycles. -/
def execSkip64 (s : State) : Host.Outcome State Fault Refusal :=
  skipOpcode 0x64 s
/-- *NOP 0x74 ZPX (R200): 4 cycles. -/
def execSkip74 (s : State) : Host.Outcome State Fault Refusal :=
  skipOpcode 0x74 s
/-- *NOP 0x7A IMP (R200): 2 cycles. -/
def execSkip7A (s : State) : Host.Outcome State Fault Refusal :=
  skipOpcode 0x7A s
/-- *NOP 0x7C ABX (R200): 4 cycles. -/
def execSkip7C (s : State) : Host.Outcome State Fault Refusal :=
  skipOpcode 0x7C s
/-- *NOP 0x80 IMM (R200): 2 cycles. -/
def execSkip80 (s : State) : Host.Outcome State Fault Refusal :=
  skipOpcode 0x80 s
/-- *NOP 0x82 IMM (R200): 2 cycles. -/
def execSkip82 (s : State) : Host.Outcome State Fault Refusal :=
  skipOpcode 0x82 s
/-- *NOP 0x89 IMM (R200): 2 cycles. -/
def execSkip89 (s : State) : Host.Outcome State Fault Refusal :=
  skipOpcode 0x89 s
/-- *NOP 0xC2 IMM (R200): 2 cycles. -/
def execSkipC2 (s : State) : Host.Outcome State Fault Refusal :=
  skipOpcode 0xC2 s
/-- *NOP 0xD4 ZPX (R200): 4 cycles. -/
def execSkipD4 (s : State) : Host.Outcome State Fault Refusal :=
  skipOpcode 0xD4 s
/-- *NOP 0xDA IMP (R200): 2 cycles. -/
def execSkipDA (s : State) : Host.Outcome State Fault Refusal :=
  skipOpcode 0xDA s
/-- *NOP 0xDC ABX (R200): 4 cycles. -/
def execSkipDC (s : State) : Host.Outcome State Fault Refusal :=
  skipOpcode 0xDC s
/-- *NOP 0xE2 IMM (R200): 2 cycles. -/
def execSkipE2 (s : State) : Host.Outcome State Fault Refusal :=
  skipOpcode 0xE2 s
/-- *NOP 0xF4 ZPX (R200): 4 cycles. -/
def execSkipF4 (s : State) : Host.Outcome State Fault Refusal :=
  skipOpcode 0xF4 s
/-- *NOP 0xFA IMP (R200): 2 cycles. -/
def execSkipFA (s : State) : Host.Outcome State Fault Refusal :=
  skipOpcode 0xFA s
/-- *NOP 0xFC ABX (R200): 4 cycles. -/
def execSkipFC (s : State) : Host.Outcome State Fault Refusal :=
  skipOpcode 0xFC s

end Sys2Proof.Machine
end

