-- ==== Sys2Proof/Machine/Stack.lean ====
section
/-! DEFINITION. The meanings of PHA, PHP, PLA, PLP (42_stack.md), each over the shared operations. -/

namespace Sys2Proof.Machine

/-- PHA IMP (R122): 3 cycles. -/
def execPha (s : State) : Host.Outcome State Fault Refusal :=
  done (baseCycles 0x48) (push s.a s)

/-- PHP IMP (R123): 3 cycles. -/
def execPhp (s : State) : Host.Outcome State Fault Refusal :=
  done (baseCycles 0x08) (push (statusFromInstr s.p) s)

/-- PLA IMP (R124): 4 cycles. -/
def execPla (s : State) : Host.Outcome State Fault Refusal :=
  let v := pull s; done (baseCycles 0x68) (writeA v.1 v.2)

/-- PLP IMP (R125): 4 cycles. -/
def execPlp (s : State) : Host.Outcome State Fault Refusal :=
  let v := pull s; done (baseCycles 0x28) (v.2.withP (statusPulled v.1))

end Sys2Proof.Machine
end

