-- ==== Sys2Proof/Machine/Transfer.lean ====
section
/-! DEFINITION. The meanings of TAX, TAY, TXA, TYA, TSX, TXS (41_transfer.md), each over the shared operations. -/

namespace Sys2Proof.Machine

/-- TAX IMP (R110): 2 cycles. -/
def execTax (s : State) : Host.Outcome State Fault Refusal :=
  done (baseCycles 0xAA) (writeX s.a s)

/-- TAY IMP (R111): 2 cycles. -/
def execTay (s : State) : Host.Outcome State Fault Refusal :=
  done (baseCycles 0xA8) (writeY s.a s)

/-- TXA IMP (R112): 2 cycles. -/
def execTxa (s : State) : Host.Outcome State Fault Refusal :=
  done (baseCycles 0x8A) (writeA s.x s)

/-- TYA IMP (R113): 2 cycles. -/
def execTya (s : State) : Host.Outcome State Fault Refusal :=
  done (baseCycles 0x98) (writeA s.y s)

/-- TSX IMP (R114): 2 cycles. -/
def execTsx (s : State) : Host.Outcome State Fault Refusal :=
  done (baseCycles 0xBA) (writeX s.sp s)

/-- TXS IMP (R115): 2 cycles. -/
def execTxs (s : State) : Host.Outcome State Fault Refusal :=
  done (baseCycles 0x9A) (s.withSp s.x)

end Sys2Proof.Machine
end

