-- ==== Sys2Proof/Syntax.lean ====
section
/-! DEFINITION. The instructions: one constructor per row of spec/opcode_table.json (R89, R90), its operand bytes as one byte
or one little-endian word (R70, R52). A skip opcode has no operand: the bytes after it are passed over unread (R92, R200). -/

namespace Sys2Proof

/-- The 151 official opcodes, named by mnemonic and addressing mode, and the 27 skip opcodes, named by their byte. -/
inductive Instr where
  -- LDA (R100)
  | ldaImm (v : Byte)
  | ldaZp (z : Byte)
  | ldaZpx (z : Byte)
  | ldaAbs (addr : Word)
  | ldaAbx (addr : Word)
  | ldaAby (addr : Word)
  | ldaIzx (z : Byte)
  | ldaIzy (z : Byte)
  -- LDX (R101)
  | ldxImm (v : Byte)
  | ldxZp (z : Byte)
  | ldxZpy (z : Byte)
  | ldxAbs (addr : Word)
  | ldxAby (addr : Word)
  -- LDY (R102)
  | ldyImm (v : Byte)
  | ldyZp (z : Byte)
  | ldyZpx (z : Byte)
  | ldyAbs (addr : Word)
  | ldyAbx (addr : Word)
  -- STA (R103)
  | staZp (z : Byte)
  | staZpx (z : Byte)
  | staAbs (addr : Word)
  | staAbx (addr : Word)
  | staAby (addr : Word)
  | staIzx (z : Byte)
  | staIzy (z : Byte)
  -- STX (R104)
  | stxZp (z : Byte)
  | stxZpy (z : Byte)
  | stxAbs (addr : Word)
  -- STY (R105)
  | styZp (z : Byte)
  | styZpx (z : Byte)
  | styAbs (addr : Word)
  -- TAX (R110)
  | tax
  -- TAY (R111)
  | tay
  -- TXA (R112)
  | txa
  -- TYA (R113)
  | tya
  -- TSX (R114)
  | tsx
  -- TXS (R115)
  | txs
  -- PHA (R122)
  | pha
  -- PHP (R123)
  | php
  -- PLA (R124)
  | pla
  -- PLP (R125)
  | plp
  -- AND (R130)
  | andImm (v : Byte)
  | andZp (z : Byte)
  | andZpx (z : Byte)
  | andAbs (addr : Word)
  | andAbx (addr : Word)
  | andAby (addr : Word)
  | andIzx (z : Byte)
  | andIzy (z : Byte)
  -- ORA (R131)
  | oraImm (v : Byte)
  | oraZp (z : Byte)
  | oraZpx (z : Byte)
  | oraAbs (addr : Word)
  | oraAbx (addr : Word)
  | oraAby (addr : Word)
  | oraIzx (z : Byte)
  | oraIzy (z : Byte)
  -- EOR (R132)
  | eorImm (v : Byte)
  | eorZp (z : Byte)
  | eorZpx (z : Byte)
  | eorAbs (addr : Word)
  | eorAbx (addr : Word)
  | eorAby (addr : Word)
  | eorIzx (z : Byte)
  | eorIzy (z : Byte)
  -- BIT (R133)
  | bitZp (z : Byte)
  | bitAbs (addr : Word)
  -- ADC (R144)
  | adcImm (v : Byte)
  | adcZp (z : Byte)
  | adcZpx (z : Byte)
  | adcAbs (addr : Word)
  | adcAbx (addr : Word)
  | adcAby (addr : Word)
  | adcIzx (z : Byte)
  | adcIzy (z : Byte)
  -- SBC (R145)
  | sbcImm (v : Byte)
  | sbcZp (z : Byte)
  | sbcZpx (z : Byte)
  | sbcAbs (addr : Word)
  | sbcAbx (addr : Word)
  | sbcAby (addr : Word)
  | sbcIzx (z : Byte)
  | sbcIzy (z : Byte)
  -- CMP (R146)
  | cmpImm (v : Byte)
  | cmpZp (z : Byte)
  | cmpZpx (z : Byte)
  | cmpAbs (addr : Word)
  | cmpAbx (addr : Word)
  | cmpAby (addr : Word)
  | cmpIzx (z : Byte)
  | cmpIzy (z : Byte)
  -- CPX (R147)
  | cpxImm (v : Byte)
  | cpxZp (z : Byte)
  | cpxAbs (addr : Word)
  -- CPY (R148)
  | cpyImm (v : Byte)
  | cpyZp (z : Byte)
  | cpyAbs (addr : Word)
  -- INC (R150)
  | incZp (z : Byte)
  | incZpx (z : Byte)
  | incAbs (addr : Word)
  | incAbx (addr : Word)
  -- DEC (R151)
  | decZp (z : Byte)
  | decZpx (z : Byte)
  | decAbs (addr : Word)
  | decAbx (addr : Word)
  -- INX (R152)
  | inx
  -- INY (R153)
  | iny
  -- DEX (R154)
  | dex
  -- DEY (R155)
  | dey
  -- ASL (R160)
  | aslAcc
  | aslZp (z : Byte)
  | aslZpx (z : Byte)
  | aslAbs (addr : Word)
  | aslAbx (addr : Word)
  -- LSR (R161)
  | lsrAcc
  | lsrZp (z : Byte)
  | lsrZpx (z : Byte)
  | lsrAbs (addr : Word)
  | lsrAbx (addr : Word)
  -- ROL (R162)
  | rolAcc
  | rolZp (z : Byte)
  | rolZpx (z : Byte)
  | rolAbs (addr : Word)
  | rolAbx (addr : Word)
  -- ROR (R163)
  | rorAcc
  | rorZp (z : Byte)
  | rorZpx (z : Byte)
  | rorAbs (addr : Word)
  | rorAbx (addr : Word)
  -- JMP (R170)
  | jmpAbs (addr : Word)
  | jmpInd (ptr : Word)
  -- JSR (R171)
  | jsr (addr : Word)
  -- RTS (R172)
  | rts
  -- BCC (R181)
  | bcc (off : Byte)
  -- BCS (R182)
  | bcs (off : Byte)
  -- BEQ (R183)
  | beq (off : Byte)
  -- BMI (R184)
  | bmi (off : Byte)
  -- BNE (R185)
  | bne (off : Byte)
  -- BPL (R186)
  | bpl (off : Byte)
  -- BVC (R187)
  | bvc (off : Byte)
  -- BVS (R188)
  | bvs (off : Byte)
  -- CLC (R190)
  | clc
  -- CLD (R191)
  | cld
  -- CLI (R192)
  | cli
  -- CLV (R193)
  | clv
  -- SEC (R194)
  | sec
  -- SED (R195)
  | sed
  -- SEI (R196)
  | sei
  -- NOP (R197)
  | nop
  -- BRK (R198)
  | brk
  -- RTI (R199)
  | rti
  -- *NOP (R200)
  | skip04
  | skip0C
  | skip14
  | skip1A
  | skip1C
  | skip34
  | skip3A
  | skip3C
  | skip44
  | skip54
  | skip5A
  | skip5C
  | skip64
  | skip74
  | skip7A
  | skip7C
  | skip80
  | skip82
  | skip89
  | skipC2
  | skipD4
  | skipDA
  | skipDC
  | skipE2
  | skipF4
  | skipFA
  | skipFC
  deriving DecidableEq, Repr

end Sys2Proof
end

