-- ==== Sys2Proof/WellFormed.lean ====
section
/-! DEFINITION. Well-formedness. Every operand byte value is legal in every mode (R91), and the types of `Instr` hold exactly
the operand bytes, so every instruction term is well formed; what can be ill formed is the raw material the machine is given:
a program image (R51) and a configuration (R8). -/

namespace Sys2Proof

open Sys2Proof.Machine

/-- Every instruction term is well formed (R91: no reserved operand values). -/
def wellFormed (_ : Instr) : Bool := true

/-- A program image is well formed when it is exactly 16384 bytes (R51, D17). -/
def wellFormedImage (prg : List Byte) : Bool := prg.length == config.prgSize.toNat

/-- A size that a mask of low ones can reduce an address to. -/
def isPowerOfTwo (w : Word) : Bool := w != 0 && w &&& (w - 1) == 0

/-- A PPU position is one of the configuration's (R24, R25). -/
def positionOk (par : Config.Params) (pos : Int × Nat) : Bool :=
  decide (Config.preRenderLine ≤ pos.1 ∧ pos.1 < Config.preRenderLine + par.ppuLines ∧ pos.2 < par.ppuCyclesPerLine)

/-- A configuration is well formed when its widths are those of the types, its regions lie one after the other and fill the space
with masks that fit (R41, R42, R51), its events are positions of the PPU with one tick before the VBlank set in its line (R330), its
skip rows have the lengths an instruction can have and no opcode twice or official (R72), and its base cycle counts are a 16 by 16
table (R89). -/
def wellFormedParams (par : Config.Params) : Bool :=
  par.xlenData == 8 && par.xlenAddr == 16 &&
  isPowerOfTwo par.ramSize && isPowerOfTwo par.ppuRegCount && isPowerOfTwo par.prgSize &&
  par.ramSize ≤ par.ramMirrorEnd && par.ramMirrorEnd == par.ppuRegBase && par.ppuRegBase &&& (par.ppuRegCount - 1) == 0 &&
  par.ppuRegBase < par.ppuRegEnd && par.ppuRegEnd == par.ioBase && par.ioBase ≤ par.ioEnd && par.ioEnd ≤ par.prgBase &&
  par.prgBase &&& (par.prgSize - 1) == 0 && par.prgBase + par.prgSize == par.prgMirror && par.prgMirror + par.prgSize == 0 &&
  [par.vblSetAt, par.vblClearAt, par.sprClearAt, par.scrollLatchAt, (par.ppuInit.2.1, par.ppuInit.1)].all (positionOk par) &&
  1 ≤ par.vblSetAt.2 &&
  par.skipTable.all (fun r => 1 ≤ r.length && r.length ≤ 3 &&
    (par.baseCycles.getD (r.opcode.toNat / 16) []).getD (r.opcode.toNat % 16) 0 == 0) &&
  decide (par.skipTable.Pairwise (fun r q => r.opcode ≠ q.opcode)) &&
  par.baseCycles.length == 16 && par.baseCycles.all (fun l => l.length == 16)

end Sys2Proof
end

