-- ==== Sys2Proof/Decode.lean ====
section
/-! DEFINITION. The decoder (R70 to R72, R89 to R92), total on any bytes and rejecting by name, and the encoder. -/

namespace Sys2Proof

open Sys2Proof.Machine

/-- Why bytes are no instruction. -/
inductive DecodeError where
  /-- There is no byte. -/
  | noBytes
  /-- The first byte is in neither opcode table (R91). -/
  | unknownOpcode (op : Byte)
  /-- The bytes end before the instruction does (R70). -/
  | truncated (op : Byte)
  deriving DecidableEq, Repr

/-- The three classes of opcode bytes (R72). -/
inductive OpcodeClass where
  | official
  | skip
  | unknown
  deriving DecidableEq, Repr

/-- One row of the opcode table (R22): the opcode byte, the class, how many operand bytes the instruction fetches, its length in
bytes, and the instruction made from two operand bytes (those it does not fetch are ignored). -/
structure Row where
  opcode   : Byte
  cls      : OpcodeClass
  operands : Nat
  length   : Nat
  build    : Byte → Byte → Instr

/-- Format F1 (R70): no operand byte. -/
def f1 (op : Byte) (i : Instr) : Row := ⟨op, .official, 0, 1, fun _ _ => i⟩
/-- Format F2 (R70): one operand byte. -/
def f2 (op : Byte) (f : Byte → Instr) : Row := ⟨op, .official, 1, 2, fun b _ => f b⟩
/-- Format F3 (R70): two operand bytes, low then high. -/
def f3 (op : Byte) (f : Word → Instr) : Row := ⟨op, .official, 2, 3, fun lo hi => f (word hi lo)⟩
/-- A skip opcode (R90): `length` bytes of which only the first is fetched. -/
def fs (op : Byte) (length : Nat) (i : Instr) : Row := ⟨op, .skip, 0, length, fun _ _ => i⟩

/-- The rows of LDA, LDX, LDY, STA, STX, STY (R89). -/
def rowsLoadStore : List Row := [
  f2 0xA9 .ldaImm, f2 0xA5 .ldaZp, f2 0xB5 .ldaZpx, f3 0xAD .ldaAbs, f3 0xBD .ldaAbx,
  f3 0xB9 .ldaAby, f2 0xA1 .ldaIzx, f2 0xB1 .ldaIzy,
  f2 0xA2 .ldxImm, f2 0xA6 .ldxZp, f2 0xB6 .ldxZpy, f3 0xAE .ldxAbs, f3 0xBE .ldxAby,
  f2 0xA0 .ldyImm, f2 0xA4 .ldyZp, f2 0xB4 .ldyZpx, f3 0xAC .ldyAbs, f3 0xBC .ldyAbx,
  f2 0x85 .staZp, f2 0x95 .staZpx, f3 0x8D .staAbs, f3 0x9D .staAbx, f3 0x99 .staAby,
  f2 0x81 .staIzx, f2 0x91 .staIzy,
  f2 0x86 .stxZp, f2 0x96 .stxZpy, f3 0x8E .stxAbs,
  f2 0x84 .styZp, f2 0x94 .styZpx, f3 0x8C .styAbs ]

/-- The rows of TAX, TAY, TXA, TYA, TSX, TXS (R89). -/
def rowsTransfer : List Row := [
  f1 0xAA .tax,
  f1 0xA8 .tay,
  f1 0x8A .txa,
  f1 0x98 .tya,
  f1 0xBA .tsx,
  f1 0x9A .txs ]

/-- The rows of PHA, PHP, PLA, PLP (R89). -/
def rowsStack : List Row := [
  f1 0x48 .pha,
  f1 0x08 .php,
  f1 0x68 .pla,
  f1 0x28 .plp ]

/-- The rows of AND, ORA, EOR, BIT (R89). -/
def rowsLogic : List Row := [
  f2 0x29 .andImm, f2 0x25 .andZp, f2 0x35 .andZpx, f3 0x2D .andAbs, f3 0x3D .andAbx,
  f3 0x39 .andAby, f2 0x21 .andIzx, f2 0x31 .andIzy,
  f2 0x09 .oraImm, f2 0x05 .oraZp, f2 0x15 .oraZpx, f3 0x0D .oraAbs, f3 0x1D .oraAbx,
  f3 0x19 .oraAby, f2 0x01 .oraIzx, f2 0x11 .oraIzy,
  f2 0x49 .eorImm, f2 0x45 .eorZp, f2 0x55 .eorZpx, f3 0x4D .eorAbs, f3 0x5D .eorAbx,
  f3 0x59 .eorAby, f2 0x41 .eorIzx, f2 0x51 .eorIzy,
  f2 0x24 .bitZp, f3 0x2C .bitAbs ]

/-- The rows of ADC, SBC, CMP, CPX, CPY (R89). -/
def rowsArith : List Row := [
  f2 0x69 .adcImm, f2 0x65 .adcZp, f2 0x75 .adcZpx, f3 0x6D .adcAbs, f3 0x7D .adcAbx,
  f3 0x79 .adcAby, f2 0x61 .adcIzx, f2 0x71 .adcIzy,
  f2 0xE9 .sbcImm, f2 0xE5 .sbcZp, f2 0xF5 .sbcZpx, f3 0xED .sbcAbs, f3 0xFD .sbcAbx,
  f3 0xF9 .sbcAby, f2 0xE1 .sbcIzx, f2 0xF1 .sbcIzy,
  f2 0xC9 .cmpImm, f2 0xC5 .cmpZp, f2 0xD5 .cmpZpx, f3 0xCD .cmpAbs, f3 0xDD .cmpAbx,
  f3 0xD9 .cmpAby, f2 0xC1 .cmpIzx, f2 0xD1 .cmpIzy,
  f2 0xE0 .cpxImm, f2 0xE4 .cpxZp, f3 0xEC .cpxAbs,
  f2 0xC0 .cpyImm, f2 0xC4 .cpyZp, f3 0xCC .cpyAbs ]

/-- The rows of INC, DEC, INX, INY, DEX, DEY (R89). -/
def rowsIncDec : List Row := [
  f2 0xE6 .incZp, f2 0xF6 .incZpx, f3 0xEE .incAbs, f3 0xFE .incAbx,
  f2 0xC6 .decZp, f2 0xD6 .decZpx, f3 0xCE .decAbs, f3 0xDE .decAbx,
  f1 0xE8 .inx,
  f1 0xC8 .iny,
  f1 0xCA .dex,
  f1 0x88 .dey ]

/-- The rows of ASL, LSR, ROL, ROR (R89). -/
def rowsShift : List Row := [
  f1 0x0A .aslAcc, f2 0x06 .aslZp, f2 0x16 .aslZpx, f3 0x0E .aslAbs, f3 0x1E .aslAbx,
  f1 0x4A .lsrAcc, f2 0x46 .lsrZp, f2 0x56 .lsrZpx, f3 0x4E .lsrAbs, f3 0x5E .lsrAbx,
  f1 0x2A .rolAcc, f2 0x26 .rolZp, f2 0x36 .rolZpx, f3 0x2E .rolAbs, f3 0x3E .rolAbx,
  f1 0x6A .rorAcc, f2 0x66 .rorZp, f2 0x76 .rorZpx, f3 0x6E .rorAbs, f3 0x7E .rorAbx ]

/-- The rows of JMP, JSR, RTS (R89). -/
def rowsJump : List Row := [
  f3 0x4C .jmpAbs, f3 0x6C .jmpInd,
  f3 0x20 .jsr,
  f1 0x60 .rts ]

/-- The rows of BCC, BCS, BEQ, BMI, BNE, BPL, BVC, BVS (R89). -/
def rowsBranch : List Row := [
  f2 0x90 .bcc,
  f2 0xB0 .bcs,
  f2 0xF0 .beq,
  f2 0x30 .bmi,
  f2 0xD0 .bne,
  f2 0x10 .bpl,
  f2 0x50 .bvc,
  f2 0x70 .bvs ]

/-- The rows of CLC, CLD, CLI, CLV, SEC, SED, SEI, NOP, BRK, RTI (R89). -/
def rowsFlagSystem : List Row := [
  f1 0x18 .clc,
  f1 0xD8 .cld,
  f1 0x58 .cli,
  f1 0xB8 .clv,
  f1 0x38 .sec,
  f1 0xF8 .sed,
  f1 0x78 .sei,
  f1 0xEA .nop,
  f1 0x00 .brk,
  f1 0x40 .rti ]

/-- The instructions of the skip opcodes. -/
def skipInstrs : List (Byte × Instr) := [
  (0x04, .skip04), (0x0C, .skip0C), (0x14, .skip14), (0x1A, .skip1A), (0x1C, .skip1C),
  (0x34, .skip34), (0x3A, .skip3A), (0x3C, .skip3C), (0x44, .skip44), (0x54, .skip54),
  (0x5A, .skip5A), (0x5C, .skip5C), (0x64, .skip64), (0x74, .skip74), (0x7A, .skip7A),
  (0x7C, .skip7C), (0x80, .skip80), (0x82, .skip82), (0x89, .skip89), (0xC2, .skipC2),
  (0xD4, .skipD4), (0xDA, .skipDA), (0xDC, .skipDC), (0xE2, .skipE2), (0xF4, .skipF4),
  (0xFA, .skipFA), (0xFC, .skipFC) ]

/-- The rows of the skip opcodes that SKIP_TABLE lists, with its lengths (R90). -/
def rowsSkip : List Row := skipInstrs.filterMap (fun c => (skipRow? c.1).map (fun r => fs r.opcode r.length c.2))

/-- The opcode table (R22, R72, R89, R90). -/
def opcodeTable : List Row :=
  rowsLoadStore ++ rowsTransfer ++ rowsStack ++ rowsLogic ++ rowsArith ++ rowsIncDec
    ++ rowsShift ++ rowsJump ++ rowsBranch ++ rowsFlagSystem ++ rowsSkip

/-- The row of an opcode byte. -/
def lookup (op : Byte) : Option Row := opcodeTable.find? (fun r => r.opcode == op)

/-- `classify(op)` (R72): official, skip or unknown. -/
def classify (op : Byte) : OpcodeClass := ((lookup op).map Row.cls).getD .unknown

/-- The instruction at the head of a list of bytes and the bytes after it (R70, R92). -/
def decode : List Byte → Except DecodeError (Instr × List Byte)
  | [] => .error .noBytes
  | op :: rest =>
    match lookup op with
    | none => .error (.unknownOpcode op)
    | some r =>
      if rest.length + 1 < r.length then .error (.truncated op)
      else .ok (r.build (rest.getD 0 0) (rest.getD 1 0), rest.drop (r.length - 1))

/-- A skip opcode and the bytes it passes over, written as zero (R90, log 8). -/
def skipBytesOf (op : Byte) : List Byte := op :: List.replicate (((skipRow? op).map Config.SkipRow.length).getD 1 - 1) 0x00

/-- The bytes of an instruction (R70, R89, R90), written from the tables. -/
def encode : Instr → List Byte
  | .ldaImm v => [0xA9, v]
  | .ldaZp z => [0xA5, z]
  | .ldaZpx z => [0xB5, z]
  | .ldaAbs addr => [0xAD, lo8 addr, hi8 addr]
  | .ldaAbx addr => [0xBD, lo8 addr, hi8 addr]
  | .ldaAby addr => [0xB9, lo8 addr, hi8 addr]
  | .ldaIzx z => [0xA1, z]
  | .ldaIzy z => [0xB1, z]
  | .ldxImm v => [0xA2, v]
  | .ldxZp z => [0xA6, z]
  | .ldxZpy z => [0xB6, z]
  | .ldxAbs addr => [0xAE, lo8 addr, hi8 addr]
  | .ldxAby addr => [0xBE, lo8 addr, hi8 addr]
  | .ldyImm v => [0xA0, v]
  | .ldyZp z => [0xA4, z]
  | .ldyZpx z => [0xB4, z]
  | .ldyAbs addr => [0xAC, lo8 addr, hi8 addr]
  | .ldyAbx addr => [0xBC, lo8 addr, hi8 addr]
  | .staZp z => [0x85, z]
  | .staZpx z => [0x95, z]
  | .staAbs addr => [0x8D, lo8 addr, hi8 addr]
  | .staAbx addr => [0x9D, lo8 addr, hi8 addr]
  | .staAby addr => [0x99, lo8 addr, hi8 addr]
  | .staIzx z => [0x81, z]
  | .staIzy z => [0x91, z]
  | .stxZp z => [0x86, z]
  | .stxZpy z => [0x96, z]
  | .stxAbs addr => [0x8E, lo8 addr, hi8 addr]
  | .styZp z => [0x84, z]
  | .styZpx z => [0x94, z]
  | .styAbs addr => [0x8C, lo8 addr, hi8 addr]
  | .tax => [0xAA]
  | .tay => [0xA8]
  | .txa => [0x8A]
  | .tya => [0x98]
  | .tsx => [0xBA]
  | .txs => [0x9A]
  | .pha => [0x48]
  | .php => [0x08]
  | .pla => [0x68]
  | .plp => [0x28]
  | .andImm v => [0x29, v]
  | .andZp z => [0x25, z]
  | .andZpx z => [0x35, z]
  | .andAbs addr => [0x2D, lo8 addr, hi8 addr]
  | .andAbx addr => [0x3D, lo8 addr, hi8 addr]
  | .andAby addr => [0x39, lo8 addr, hi8 addr]
  | .andIzx z => [0x21, z]
  | .andIzy z => [0x31, z]
  | .oraImm v => [0x09, v]
  | .oraZp z => [0x05, z]
  | .oraZpx z => [0x15, z]
  | .oraAbs addr => [0x0D, lo8 addr, hi8 addr]
  | .oraAbx addr => [0x1D, lo8 addr, hi8 addr]
  | .oraAby addr => [0x19, lo8 addr, hi8 addr]
  | .oraIzx z => [0x01, z]
  | .oraIzy z => [0x11, z]
  | .eorImm v => [0x49, v]
  | .eorZp z => [0x45, z]
  | .eorZpx z => [0x55, z]
  | .eorAbs addr => [0x4D, lo8 addr, hi8 addr]
  | .eorAbx addr => [0x5D, lo8 addr, hi8 addr]
  | .eorAby addr => [0x59, lo8 addr, hi8 addr]
  | .eorIzx z => [0x41, z]
  | .eorIzy z => [0x51, z]
  | .bitZp z => [0x24, z]
  | .bitAbs addr => [0x2C, lo8 addr, hi8 addr]
  | .adcImm v => [0x69, v]
  | .adcZp z => [0x65, z]
  | .adcZpx z => [0x75, z]
  | .adcAbs addr => [0x6D, lo8 addr, hi8 addr]
  | .adcAbx addr => [0x7D, lo8 addr, hi8 addr]
  | .adcAby addr => [0x79, lo8 addr, hi8 addr]
  | .adcIzx z => [0x61, z]
  | .adcIzy z => [0x71, z]
  | .sbcImm v => [0xE9, v]
  | .sbcZp z => [0xE5, z]
  | .sbcZpx z => [0xF5, z]
  | .sbcAbs addr => [0xED, lo8 addr, hi8 addr]
  | .sbcAbx addr => [0xFD, lo8 addr, hi8 addr]
  | .sbcAby addr => [0xF9, lo8 addr, hi8 addr]
  | .sbcIzx z => [0xE1, z]
  | .sbcIzy z => [0xF1, z]
  | .cmpImm v => [0xC9, v]
  | .cmpZp z => [0xC5, z]
  | .cmpZpx z => [0xD5, z]
  | .cmpAbs addr => [0xCD, lo8 addr, hi8 addr]
  | .cmpAbx addr => [0xDD, lo8 addr, hi8 addr]
  | .cmpAby addr => [0xD9, lo8 addr, hi8 addr]
  | .cmpIzx z => [0xC1, z]
  | .cmpIzy z => [0xD1, z]
  | .cpxImm v => [0xE0, v]
  | .cpxZp z => [0xE4, z]
  | .cpxAbs addr => [0xEC, lo8 addr, hi8 addr]
  | .cpyImm v => [0xC0, v]
  | .cpyZp z => [0xC4, z]
  | .cpyAbs addr => [0xCC, lo8 addr, hi8 addr]
  | .incZp z => [0xE6, z]
  | .incZpx z => [0xF6, z]
  | .incAbs addr => [0xEE, lo8 addr, hi8 addr]
  | .incAbx addr => [0xFE, lo8 addr, hi8 addr]
  | .decZp z => [0xC6, z]
  | .decZpx z => [0xD6, z]
  | .decAbs addr => [0xCE, lo8 addr, hi8 addr]
  | .decAbx addr => [0xDE, lo8 addr, hi8 addr]
  | .inx => [0xE8]
  | .iny => [0xC8]
  | .dex => [0xCA]
  | .dey => [0x88]
  | .aslAcc => [0x0A]
  | .aslZp z => [0x06, z]
  | .aslZpx z => [0x16, z]
  | .aslAbs addr => [0x0E, lo8 addr, hi8 addr]
  | .aslAbx addr => [0x1E, lo8 addr, hi8 addr]
  | .lsrAcc => [0x4A]
  | .lsrZp z => [0x46, z]
  | .lsrZpx z => [0x56, z]
  | .lsrAbs addr => [0x4E, lo8 addr, hi8 addr]
  | .lsrAbx addr => [0x5E, lo8 addr, hi8 addr]
  | .rolAcc => [0x2A]
  | .rolZp z => [0x26, z]
  | .rolZpx z => [0x36, z]
  | .rolAbs addr => [0x2E, lo8 addr, hi8 addr]
  | .rolAbx addr => [0x3E, lo8 addr, hi8 addr]
  | .rorAcc => [0x6A]
  | .rorZp z => [0x66, z]
  | .rorZpx z => [0x76, z]
  | .rorAbs addr => [0x6E, lo8 addr, hi8 addr]
  | .rorAbx addr => [0x7E, lo8 addr, hi8 addr]
  | .jmpAbs addr => [0x4C, lo8 addr, hi8 addr]
  | .jmpInd ptr => [0x6C, lo8 ptr, hi8 ptr]
  | .jsr addr => [0x20, lo8 addr, hi8 addr]
  | .rts => [0x60]
  | .bcc off => [0x90, off]
  | .bcs off => [0xB0, off]
  | .beq off => [0xF0, off]
  | .bmi off => [0x30, off]
  | .bne off => [0xD0, off]
  | .bpl off => [0x10, off]
  | .bvc off => [0x50, off]
  | .bvs off => [0x70, off]
  | .clc => [0x18]
  | .cld => [0xD8]
  | .cli => [0x58]
  | .clv => [0xB8]
  | .sec => [0x38]
  | .sed => [0xF8]
  | .sei => [0x78]
  | .nop => [0xEA]
  | .brk => [0x00]
  | .rti => [0x40]
  | .skip04 => skipBytesOf 0x04
  | .skip0C => skipBytesOf 0x0C
  | .skip14 => skipBytesOf 0x14
  | .skip1A => skipBytesOf 0x1A
  | .skip1C => skipBytesOf 0x1C
  | .skip34 => skipBytesOf 0x34
  | .skip3A => skipBytesOf 0x3A
  | .skip3C => skipBytesOf 0x3C
  | .skip44 => skipBytesOf 0x44
  | .skip54 => skipBytesOf 0x54
  | .skip5A => skipBytesOf 0x5A
  | .skip5C => skipBytesOf 0x5C
  | .skip64 => skipBytesOf 0x64
  | .skip74 => skipBytesOf 0x74
  | .skip7A => skipBytesOf 0x7A
  | .skip7C => skipBytesOf 0x7C
  | .skip80 => skipBytesOf 0x80
  | .skip82 => skipBytesOf 0x82
  | .skip89 => skipBytesOf 0x89
  | .skipC2 => skipBytesOf 0xC2
  | .skipD4 => skipBytesOf 0xD4
  | .skipDA => skipBytesOf 0xDA
  | .skipDC => skipBytesOf 0xDC
  | .skipE2 => skipBytesOf 0xE2
  | .skipF4 => skipBytesOf 0xF4
  | .skipFA => skipBytesOf 0xFA
  | .skipFC => skipBytesOf 0xFC

/-- Byte `k` of an instruction whose bits are `w`, bit 0 the least significant bit of the first byte. -/
def tableByte (nbits w k : Nat) : Byte := BitVec.ofNat 8 (w % 2 ^ nbits / 2 ^ (8 * k))

/-- The instruction the decoder reads from an opcode-table word of `nbits` bits; the bits above are zero. -/
def decodeTableWord (nbits w : Nat) : Option Instr :=
  match decode [tableByte nbits w 0, tableByte nbits w 1, tableByte nbits w 2] with
  | .ok (i, _) => some i
  | .error _ => none

end Sys2Proof
end

