-- ==== Sys2Proof/Machine/Fetch.lean ====
section
/-! DEFINITION. Fetching an instruction through the bus, byte by byte in ascending address order (R52, R64, R71). -/

namespace Sys2Proof.Machine

/-- Read the byte at `pc` and move `pc` past it, modulo 0x10000 (R12, R71). -/
def fetchByte (s : State) : Byte × State :=
  let b := memRead s.pc s
  (b.1, b.2.withPc (s.pc + 1))

/-- Fetch the operand bytes a row calls for, in ascending order, none for a skip opcode (R92), and build the instruction. -/
def fetchOperands (r : Row) (s : State) : Instr × State :=
  match r.operands with
  | 0 => (r.build 0 0, s)
  | 1 => (r.build (fetchByte s).1 0, (fetchByte s).2)
  | _ => (r.build (fetchByte s).1 (fetchByte (fetchByte s).2).1, (fetchByte (fetchByte s).2).2)

/-- Fetch an instruction (R71): the opcode byte, then its operand bytes. Answers the instruction, or the opcode byte if it is
unknown, and the state after the reads. -/
def fetchInstr (s : State) : Except Byte Instr × State :=
  match lookup (fetchByte s).1 with
  | none => (.error (fetchByte s).1, (fetchByte s).2)
  | some r => (.ok (fetchOperands r (fetchByte s).2).1, (fetchOperands r (fetchByte s).2).2)

/-- The bytes of the longest instruction stored from `pc` on, behind the addresses a fetch reads (R42). -/
def storeAtPc (b0 b1 b2 : Byte) (s : State) : State :=
  poke (s.pc + 2) b2 (poke (s.pc + 1) b1 (poke s.pc b0 s))

end Sys2Proof.Machine
end

