-- ==== Sys2Proof/Machine/Ppu.lean ====
section
/-! DEFINITION. The PPU timing engine (R320 to R327): one tick is the counter advance and then the events at the new position. -/

namespace Sys2Proof.Machine

/-- The position of the PPU. -/
def ppuPosition (s : State) : Int × Nat := (s.scanline, s.cycle)

/-- The next frame number, within FRAMECOUNT_WIDTH (R26, D23). -/
def nextFrame (n : Nat) : Nat :=
  match config.frameCountWidth with
  | none => n + 1
  | some w => (n + 1) % 2 ^ w

/-- Counter advance (R321). -/
def ppuAdvance (s : State) : State :=
  if s.cycle + 1 = config.ppuCyclesPerLine then
    if s.scanline + 1 = lineAfterLast then
      { s with cycle := 0, scanline := Config.preRenderLine, frameCount := nextFrame s.frameCount }
    else { s with cycle := 0, scanline := s.scanline + 1 }
  else { s with cycle := s.cycle + 1 }

/-- VBlank set event (R322): the flag unless suppressed, the NMI request if enabled and not suppressed, and the suppression
flags consumed. -/
def vblankSet (s : State) : State :=
  let s1 := if s.suppressVbl then s else setStatus (ppuStatus s ||| maskVBlank) s
  { s1 with
    nmiPending := s.nmiPending || (nmiEnable s && !s.suppressNmi)
    suppressVbl := false
    suppressNmi := false }

/-- VBlank clear event (R323). -/
def vblankClear (s : State) : State := clearStatus maskVBlank s

/-- Sprite flag clear event (R324). -/
def spriteClear (s : State) : State := clearStatus maskSpriteOverflow (clearStatus maskSprite0Hit s)

/-- Scroll latch event (R326): the scroll address is not part of this block, so no state changes, rendering enabled or not. -/
def scrollLatch (s : State) : State := s

/-- Rendering hooks of the visible lines (R325): stubs that change no state. -/
def renderingHooks (s : State) : State := s

/-- Run an event if the PPU is at its position. -/
def eventAt (pos : Int × Nat) (f : State → State) (s : State) : State := if ppuPosition s = pos then f s else s

/-- The events, tested on the counters after the advance (R320, D20). -/
def ppuEvents (s : State) : State :=
  renderingHooks (eventAt config.scrollLatchAt scrollLatch (eventAt config.sprClearAt spriteClear
    (eventAt config.vblClearAt vblankClear (eventAt config.vblSetAt vblankSet s))))

/-- One PPU tick (R320). -/
def ppuTick (s : State) : State := ppuEvents (ppuAdvance s)

/-- `n` PPU ticks. -/
def ppuTicks : Nat → State → State
  | 0, s => s
  | n + 1, s => ppuTicks n (ppuTick s)

end Sys2Proof.Machine
end

