-- ==== Sys2Proof/Machine/Cpu.lean ====
section
/-! DEFINITION. One CPU step (R71) and one system step (R340). -/

namespace Sys2Proof.Machine

/-- An unknown opcode, already fetched (R301): the policy `abort` records the fault. The policy `logAndSkip`, which the spec names
but does not specify, passes over its length and takes its cost (U3, log 10). -/
def unknownOpcode (policy : Config.UnknownOpcodePolicy) (op : Byte) (s : State) : State :=
  match policy with
  | .abort => s.withFault (.unknownOpcode op)
  | .logAndSkip length cycles => (s.withPc (s.pc + BitVec.ofNat 16 (length - 1))).withCycles cycles

/-- One CPU step (R71): a faulted machine does not step (R303); a pending NMI is taken before any fetch (R307, R311);
otherwise one instruction is fetched and run. An unknown opcode puts the machine in the fault state (R301): the step answers
that state, with no cycles, and every later step answers the fault (log 1). -/
def cpuStep (s : State) : Host.Outcome State Fault Refusal :=
  match s.fault with
  | some r => .fault r
  | none =>
    let s0 := s.withCycles 0
    if s0.nmiPending then .next (nmiEntry s0)
    else
      match fetchInstr s0 with
      | (.error op, s1) => .next (unknownOpcode config.unknownOpcodePolicy op s1)
      | (.ok i, s1) => exec i s1

/-- The ticks that follow a CPU step: three for each cycle it returned, none after a fault (R301, R340). -/
def settle (s : State) : State := unlessFaulted (ppuTicks (config.ppuPerCpu * s.cycleCount)) s

/-- One system step (R340): a CPU step, then its PPU ticks. -/
def systemStep (s : State) : Host.Outcome State Fault Refusal :=
  match cpuStep s with
  | .next t => .next (settle t)
  | .fault r => .fault r
  | .refused r => .refused r

end Sys2Proof.Machine
end

