-- ==== Sys2Proof/Machine/Step.lean ====
section
/-! DEFINITION. The step of the machine, and the placing of one instruction where the step fetches. -/

namespace Sys2Proof.Machine

/-- One step of the machine is one system step (R340). -/
def step : State → Host.Outcome State Fault Refusal := systemStep

/-- The state with an opcode-table word (bits above `nbits` zero) stored at `pc`, where the next step fetches. The fetch needs
that no NMI is pending and no fault is recorded, so both are cleared; nothing else changes (log 6). -/
def State.withFetchWord (s : State) (nbits w : Nat) : State :=
  { storeAtPc (tableByte nbits w 0) (tableByte nbits w 1) (tableByte nbits w 2) s with
    nmiPending := false
    fault := none }

end Sys2Proof.Machine
end

