-- ==== Sys2Proof/Machine/Port.lean ====
section
/-! DEFINITION. What the outside can do to the machine between steps (D1): reset, program load, power-on, the conformance
override, a bus request at any integer address, and the introspection snapshot. A faulted machine answers each of these requests
unchanged and with no bus access, the snapshot still reads it, and power-on alone, which makes a new machine, leaves the fault state
(R303, R364). -/

namespace Sys2Proof.Machine

/-- What a CPU reset does (R360): registers, then `pc` from the reset vector. Memory and PPU stay (R361). -/
def resetRegisters (par : Config.OpenParams) (s : State) : State :=
  let s1 := { s with a := 0, x := 0, y := 0, p := par.resetP, sp := config.resetSp, nmiPending := false, cycleCount := 0 }
  let t := read16 config.vecReset s1
  t.2.withPc t.1

/-- CPU reset (R360). A faulted machine is not reset (R303, R361, log 13). -/
def cpuReset (par : Config.OpenParams) (s : State) : State := unlessFaulted (resetRegisters par) s

/-- The cells of a program image from address `k` on, in canonical form. -/
def romCells : Nat → List Byte → Memory
  | _, [] => []
  | k, b :: bs => if b = Memory.unlisted k then romCells (k + 1) bs else (k, b) :: romCells (k + 1) bs

/-- The byte array below the program ROM. -/
def belowRom (m : Memory) : Memory := m.filter (fun c => decide (c.1 < config.prgBase.toNat))

/-- `loadROM(prg)` (R51): the image becomes the program ROM; an image of another size is refused (D17). A faulted machine answers
its fault (R303, log 13). -/
def loadRom (prg : List Byte) (s : State) : Host.Outcome State Fault Refusal :=
  match s.fault with
  | some r => .fault r
  | none =>
    if wellFormedImage prg then .next (s.withMem (belowRom s.mem ++ romCells config.prgBase.toNat prg))
    else .refused (.romImageSize prg.length)

/-- Whether MEM_INIT covers an address: RAM, I/O storage or cartridge-low storage (R32). -/
def hasMemInit (addr : Word) : Bool :=
  match regionOf addr with
  | .ram => true
  | .ppuRegisters => false
  | .io => true
  | .cartLow => true
  | .prg => false
  | .prgMirror => false

/-- The byte array the bus is created with (R363). -/
def initialMemory (par : Config.OpenParams) : Memory :=
  par.memInit.foldl (fun m c => if hasMemInit c.1 then m.write (cellOf c.1) c.2 else m) []

/-- Bus and PPU initialisation (R362, R363), before any program load and CPU reset. -/
def initialState (par : Config.OpenParams) : State :=
  { State.reset with
    mem := initialMemory par
    cycle := par.ppuInit.1
    scanline := par.ppuInit.2.1
    frameCount := par.ppuInit.2.2 }

/-- Power-on (R364): bus, PPU, program load, CPU reset. -/
def powerOn (par : Config.OpenParams) (prg : List Byte) : Host.Outcome State Fault Refusal :=
  match loadRom prg (initialState par) with
  | .next s => .next (cpuReset par s)
  | .fault r => .fault r
  | .refused r => .refused r

/-- The conformance override (R365). A faulted machine keeps its registers (R303, log 13). -/
def conformanceOverride (s : State) : State := unlessFaulted (fun s => (s.withPc config.confPc).withP config.confP) s

/-- Whether an integer is an address of the 16-bit space (R302). -/
def inSpace (addr : Int) : Bool := 0 ≤ addr && addr ≤ 0xFFFF

/-- A bus read requested from outside at any integer address (R302). A faulted machine makes no access (R303). -/
def portRead (addr : Int) (s : State) : Option Byte × State :=
  if s.fault.isSome then (none, s)
  else if inSpace addr then
    let b := memRead (BitVec.ofInt 16 addr) s
    (some b.1, b.2)
  else (none, s.withFault (.addressOutOfBounds addr))

/-- A bus write requested from outside at any integer address (R302, R303). -/
def portWrite (addr : Int) (v : Byte) (s : State) : State :=
  unlessFaulted (if inSpace addr then memWrite (BitVec.ofInt 16 addr) v else State.withFault (.addressOutOfBounds addr)) s

/-- The introspection snapshot (R343). -/
structure Snapshot where
  pc       : Word
  a        : Byte
  x        : Byte
  y        : Byte
  p        : Byte
  sp       : Byte
  cycle    : Nat
  scanline : Int
  deriving DecidableEq, Repr

/-- Reading the introspection port (R343, D31): no side effect. -/
def snapshot (s : State) : Snapshot :=
  { pc := s.pc, a := s.a, x := s.x, y := s.y, p := s.p, sp := s.sp, cycle := s.cycle, scanline := s.scanline }

end Sys2Proof.Machine
end

