-- ==== Sys2Proof/Safety.lean ====
section
/-! DEFINITION. What claims call a well-formed state and a safe run. -/

namespace Sys2Proof.Machine

/-- The invariant of the machine: the byte array is canonical, the PPU position is in range (R24, R25), the two suppression
flags agree (R31), the low five bits of the status byte are zero (R27), and the cycle count is one a step can return or 0
(R19). -/
structure State.Inv (s : State) : Prop where
  mem      : s.mem.wf
  cycle    : s.cycle < 341
  lineLow  : -1 ≤ s.scanline
  lineHigh : s.scanline ≤ 260
  suppress : s.suppressVbl = s.suppressNmi
  status   : ppuStatus s &&& 0x1F = 0
  cycles   : s.cycleCount ≤ 7

/-- The number of PPU ticks from the start of frame 0 at position (-1, 0) to the state's position (R321). -/
def dots (s : State) : Int := (s.frameCount * 89342 : Nat) + (s.scanline + 1) * 341 + s.cycle

/-- A run of `n` steps is safe when it never answers a fault or a refusal and never enters the fault state. -/
def SafeRun (n : Nat) (s : State) : Prop := ∃ t, t.fault = none ∧
  Host.Core.run { State := State, Fault := Fault, Refusal := Refusal, step := step, reset := State.reset } n s = .next t

end Sys2Proof.Machine
end

