-- ==== Sys2Proof/Certificates/Slice0/Obligations.lean ====
section
/-! DEFINITION. The statements for the provers, from the numbered rules of spec/. The namespace `Sys2Proof.Claims` holds the
vocabulary they share: the forms of each instruction as the opcode map of R89 and R90 lists them, and the flag table of R16. -/

namespace Sys2Proof.Claims

open Sys2Proof.Machine

/-- What an instruction does to the six flags (R16): `some b` writes `b`, `none` leaves the flag. -/
structure FlagEffect where
  c : Option Bool := none
  z : Option Bool := none
  i : Option Bool := none
  d : Option Bool := none
  v : Option Bool := none
  n : Option Bool := none

/-- The status byte `q` is `p` after the effect; bits 4 and 5 are kept. -/
def FlagEffect.Holds (e : FlagEffect) (p q : Byte) : Prop :=
  q.getLsbD 0 = e.c.getD (p.getLsbD 0) ∧ q.getLsbD 1 = e.z.getD (p.getLsbD 1) ∧ q.getLsbD 2 = e.i.getD (p.getLsbD 2) ∧
  q.getLsbD 3 = e.d.getD (p.getLsbD 3) ∧ q.getLsbD 4 = p.getLsbD 4 ∧ q.getLsbD 5 = p.getLsbD 5 ∧
  q.getLsbD 6 = e.v.getD (p.getLsbD 6) ∧ q.getLsbD 7 = e.n.getD (p.getLsbD 7)

/-- Zero and Negative from a result byte (R18). -/
def zn (r : Byte) : FlagEffect := { z := some (decide (r.toNat = 0)), n := some (decide (r.toNat ≥ 128)) }

/-- Carry, Zero and Negative from a carry bit and a result byte. -/
def czn (c : Bool) (r : Byte) : FlagEffect := { zn r with c := some c }

/-- `i` at `s` answers `t` but for the status register, which takes the effect `e`. -/
def Runs (i : Instr) (s t : State) (e : FlagEffect) : Prop :=
  ∃ q, e.Holds s.p q ∧ exec i s = .next { t with p := q }

/-- A form of a read-type instruction. -/
structure ReadForm where
  instr  : Instr
  bytes  : List Byte
  source : Source
  base   : Nat

/-- A form of a store-type or read-modify-write instruction on memory. -/
structure StoreForm where
  instr  : Instr
  bytes  : List Byte
  mode   : MemMode
  cycles : Nat

/-- A branch: instruction, bytes, and the condition on the status byte. -/
structure BranchForm where
  instr : Instr
  bytes : List Byte
  cond  : Byte → Bool

/-- A skip opcode: instruction, opcode byte, length, cycles. -/
structure SkipForm where
  instr  : Instr
  opcode : Byte
  length : Nat
  cycles : Nat

/-- LDA (R100): instruction, bytes, operand, base cycles. -/
def ldaForms (v z : Byte) (addr : Word) : List ReadForm := [
  ⟨.ldaImm v, [0xA9, v], .imm v, 2⟩,
  ⟨.ldaZp z, [0xA5, z], .mem (.zp z), 3⟩,
  ⟨.ldaZpx z, [0xB5, z], .mem (.zpx z), 4⟩,
  ⟨.ldaAbs addr, [0xAD, lo8 addr, hi8 addr], .mem (.abs addr), 4⟩,
  ⟨.ldaAbx addr, [0xBD, lo8 addr, hi8 addr], .mem (.abx addr), 4⟩,
  ⟨.ldaAby addr, [0xB9, lo8 addr, hi8 addr], .mem (.aby addr), 4⟩,
  ⟨.ldaIzx z, [0xA1, z], .mem (.izx z), 6⟩,
  ⟨.ldaIzy z, [0xB1, z], .mem (.izy z), 5⟩ ]

/-- LDX (R101): instruction, bytes, operand, base cycles. -/
def ldxForms (v z : Byte) (addr : Word) : List ReadForm := [
  ⟨.ldxImm v, [0xA2, v], .imm v, 2⟩,
  ⟨.ldxZp z, [0xA6, z], .mem (.zp z), 3⟩,
  ⟨.ldxZpy z, [0xB6, z], .mem (.zpy z), 4⟩,
  ⟨.ldxAbs addr, [0xAE, lo8 addr, hi8 addr], .mem (.abs addr), 4⟩,
  ⟨.ldxAby addr, [0xBE, lo8 addr, hi8 addr], .mem (.aby addr), 4⟩ ]

/-- LDY (R102): instruction, bytes, operand, base cycles. -/
def ldyForms (v z : Byte) (addr : Word) : List ReadForm := [
  ⟨.ldyImm v, [0xA0, v], .imm v, 2⟩,
  ⟨.ldyZp z, [0xA4, z], .mem (.zp z), 3⟩,
  ⟨.ldyZpx z, [0xB4, z], .mem (.zpx z), 4⟩,
  ⟨.ldyAbs addr, [0xAC, lo8 addr, hi8 addr], .mem (.abs addr), 4⟩,
  ⟨.ldyAbx addr, [0xBC, lo8 addr, hi8 addr], .mem (.abx addr), 4⟩ ]

/-- AND (R130): instruction, bytes, operand, base cycles. -/
def andForms (v z : Byte) (addr : Word) : List ReadForm := [
  ⟨.andImm v, [0x29, v], .imm v, 2⟩,
  ⟨.andZp z, [0x25, z], .mem (.zp z), 3⟩,
  ⟨.andZpx z, [0x35, z], .mem (.zpx z), 4⟩,
  ⟨.andAbs addr, [0x2D, lo8 addr, hi8 addr], .mem (.abs addr), 4⟩,
  ⟨.andAbx addr, [0x3D, lo8 addr, hi8 addr], .mem (.abx addr), 4⟩,
  ⟨.andAby addr, [0x39, lo8 addr, hi8 addr], .mem (.aby addr), 4⟩,
  ⟨.andIzx z, [0x21, z], .mem (.izx z), 6⟩,
  ⟨.andIzy z, [0x31, z], .mem (.izy z), 5⟩ ]

/-- ORA (R131): instruction, bytes, operand, base cycles. -/
def oraForms (v z : Byte) (addr : Word) : List ReadForm := [
  ⟨.oraImm v, [0x09, v], .imm v, 2⟩,
  ⟨.oraZp z, [0x05, z], .mem (.zp z), 3⟩,
  ⟨.oraZpx z, [0x15, z], .mem (.zpx z), 4⟩,
  ⟨.oraAbs addr, [0x0D, lo8 addr, hi8 addr], .mem (.abs addr), 4⟩,
  ⟨.oraAbx addr, [0x1D, lo8 addr, hi8 addr], .mem (.abx addr), 4⟩,
  ⟨.oraAby addr, [0x19, lo8 addr, hi8 addr], .mem (.aby addr), 4⟩,
  ⟨.oraIzx z, [0x01, z], .mem (.izx z), 6⟩,
  ⟨.oraIzy z, [0x11, z], .mem (.izy z), 5⟩ ]

/-- EOR (R132): instruction, bytes, operand, base cycles. -/
def eorForms (v z : Byte) (addr : Word) : List ReadForm := [
  ⟨.eorImm v, [0x49, v], .imm v, 2⟩,
  ⟨.eorZp z, [0x45, z], .mem (.zp z), 3⟩,
  ⟨.eorZpx z, [0x55, z], .mem (.zpx z), 4⟩,
  ⟨.eorAbs addr, [0x4D, lo8 addr, hi8 addr], .mem (.abs addr), 4⟩,
  ⟨.eorAbx addr, [0x5D, lo8 addr, hi8 addr], .mem (.abx addr), 4⟩,
  ⟨.eorAby addr, [0x59, lo8 addr, hi8 addr], .mem (.aby addr), 4⟩,
  ⟨.eorIzx z, [0x41, z], .mem (.izx z), 6⟩,
  ⟨.eorIzy z, [0x51, z], .mem (.izy z), 5⟩ ]

/-- BIT (R133): instruction, bytes, operand, base cycles. -/
def bitForms (z : Byte) (addr : Word) : List ReadForm := [
  ⟨.bitZp z, [0x24, z], .mem (.zp z), 3⟩,
  ⟨.bitAbs addr, [0x2C, lo8 addr, hi8 addr], .mem (.abs addr), 4⟩ ]

/-- ADC (R144): instruction, bytes, operand, base cycles. -/
def adcForms (v z : Byte) (addr : Word) : List ReadForm := [
  ⟨.adcImm v, [0x69, v], .imm v, 2⟩,
  ⟨.adcZp z, [0x65, z], .mem (.zp z), 3⟩,
  ⟨.adcZpx z, [0x75, z], .mem (.zpx z), 4⟩,
  ⟨.adcAbs addr, [0x6D, lo8 addr, hi8 addr], .mem (.abs addr), 4⟩,
  ⟨.adcAbx addr, [0x7D, lo8 addr, hi8 addr], .mem (.abx addr), 4⟩,
  ⟨.adcAby addr, [0x79, lo8 addr, hi8 addr], .mem (.aby addr), 4⟩,
  ⟨.adcIzx z, [0x61, z], .mem (.izx z), 6⟩,
  ⟨.adcIzy z, [0x71, z], .mem (.izy z), 5⟩ ]

/-- SBC (R145): instruction, bytes, operand, base cycles. -/
def sbcForms (v z : Byte) (addr : Word) : List ReadForm := [
  ⟨.sbcImm v, [0xE9, v], .imm v, 2⟩,
  ⟨.sbcZp z, [0xE5, z], .mem (.zp z), 3⟩,
  ⟨.sbcZpx z, [0xF5, z], .mem (.zpx z), 4⟩,
  ⟨.sbcAbs addr, [0xED, lo8 addr, hi8 addr], .mem (.abs addr), 4⟩,
  ⟨.sbcAbx addr, [0xFD, lo8 addr, hi8 addr], .mem (.abx addr), 4⟩,
  ⟨.sbcAby addr, [0xF9, lo8 addr, hi8 addr], .mem (.aby addr), 4⟩,
  ⟨.sbcIzx z, [0xE1, z], .mem (.izx z), 6⟩,
  ⟨.sbcIzy z, [0xF1, z], .mem (.izy z), 5⟩ ]

/-- CMP (R146): instruction, bytes, operand, base cycles. -/
def cmpForms (v z : Byte) (addr : Word) : List ReadForm := [
  ⟨.cmpImm v, [0xC9, v], .imm v, 2⟩,
  ⟨.cmpZp z, [0xC5, z], .mem (.zp z), 3⟩,
  ⟨.cmpZpx z, [0xD5, z], .mem (.zpx z), 4⟩,
  ⟨.cmpAbs addr, [0xCD, lo8 addr, hi8 addr], .mem (.abs addr), 4⟩,
  ⟨.cmpAbx addr, [0xDD, lo8 addr, hi8 addr], .mem (.abx addr), 4⟩,
  ⟨.cmpAby addr, [0xD9, lo8 addr, hi8 addr], .mem (.aby addr), 4⟩,
  ⟨.cmpIzx z, [0xC1, z], .mem (.izx z), 6⟩,
  ⟨.cmpIzy z, [0xD1, z], .mem (.izy z), 5⟩ ]

/-- CPX (R147): instruction, bytes, operand, base cycles. -/
def cpxForms (v z : Byte) (addr : Word) : List ReadForm := [
  ⟨.cpxImm v, [0xE0, v], .imm v, 2⟩,
  ⟨.cpxZp z, [0xE4, z], .mem (.zp z), 3⟩,
  ⟨.cpxAbs addr, [0xEC, lo8 addr, hi8 addr], .mem (.abs addr), 4⟩ ]

/-- CPY (R148): instruction, bytes, operand, base cycles. -/
def cpyForms (v z : Byte) (addr : Word) : List ReadForm := [
  ⟨.cpyImm v, [0xC0, v], .imm v, 2⟩,
  ⟨.cpyZp z, [0xC4, z], .mem (.zp z), 3⟩,
  ⟨.cpyAbs addr, [0xCC, lo8 addr, hi8 addr], .mem (.abs addr), 4⟩ ]

/-- STA (R103): instruction, bytes, mode, cycles. -/
def staForms (z : Byte) (addr : Word) : List StoreForm := [
  ⟨.staZp z, [0x85, z], .zp z, 3⟩,
  ⟨.staZpx z, [0x95, z], .zpx z, 4⟩,
  ⟨.staAbs addr, [0x8D, lo8 addr, hi8 addr], .abs addr, 4⟩,
  ⟨.staAbx addr, [0x9D, lo8 addr, hi8 addr], .abx addr, 5⟩,
  ⟨.staAby addr, [0x99, lo8 addr, hi8 addr], .aby addr, 5⟩,
  ⟨.staIzx z, [0x81, z], .izx z, 6⟩,
  ⟨.staIzy z, [0x91, z], .izy z, 6⟩ ]

/-- STX (R104): instruction, bytes, mode, cycles. -/
def stxForms (z : Byte) (addr : Word) : List StoreForm := [
  ⟨.stxZp z, [0x86, z], .zp z, 3⟩,
  ⟨.stxZpy z, [0x96, z], .zpy z, 4⟩,
  ⟨.stxAbs addr, [0x8E, lo8 addr, hi8 addr], .abs addr, 4⟩ ]

/-- STY (R105): instruction, bytes, mode, cycles. -/
def styForms (z : Byte) (addr : Word) : List StoreForm := [
  ⟨.styZp z, [0x84, z], .zp z, 3⟩,
  ⟨.styZpx z, [0x94, z], .zpx z, 4⟩,
  ⟨.styAbs addr, [0x8C, lo8 addr, hi8 addr], .abs addr, 4⟩ ]

/-- INC (R150): instruction, bytes, mode, cycles. -/
def incForms (z : Byte) (addr : Word) : List StoreForm := [
  ⟨.incZp z, [0xE6, z], .zp z, 5⟩,
  ⟨.incZpx z, [0xF6, z], .zpx z, 6⟩,
  ⟨.incAbs addr, [0xEE, lo8 addr, hi8 addr], .abs addr, 6⟩,
  ⟨.incAbx addr, [0xFE, lo8 addr, hi8 addr], .abx addr, 7⟩ ]

/-- DEC (R151): instruction, bytes, mode, cycles. -/
def decForms (z : Byte) (addr : Word) : List StoreForm := [
  ⟨.decZp z, [0xC6, z], .zp z, 5⟩,
  ⟨.decZpx z, [0xD6, z], .zpx z, 6⟩,
  ⟨.decAbs addr, [0xCE, lo8 addr, hi8 addr], .abs addr, 6⟩,
  ⟨.decAbx addr, [0xDE, lo8 addr, hi8 addr], .abx addr, 7⟩ ]

/-- ASL (R160): instruction, bytes, mode, cycles. -/
def aslForms (z : Byte) (addr : Word) : List StoreForm := [
  ⟨.aslZp z, [0x06, z], .zp z, 5⟩,
  ⟨.aslZpx z, [0x16, z], .zpx z, 6⟩,
  ⟨.aslAbs addr, [0x0E, lo8 addr, hi8 addr], .abs addr, 6⟩,
  ⟨.aslAbx addr, [0x1E, lo8 addr, hi8 addr], .abx addr, 7⟩ ]

/-- LSR (R161): instruction, bytes, mode, cycles. -/
def lsrForms (z : Byte) (addr : Word) : List StoreForm := [
  ⟨.lsrZp z, [0x46, z], .zp z, 5⟩,
  ⟨.lsrZpx z, [0x56, z], .zpx z, 6⟩,
  ⟨.lsrAbs addr, [0x4E, lo8 addr, hi8 addr], .abs addr, 6⟩,
  ⟨.lsrAbx addr, [0x5E, lo8 addr, hi8 addr], .abx addr, 7⟩ ]

/-- ROL (R162): instruction, bytes, mode, cycles. -/
def rolForms (z : Byte) (addr : Word) : List StoreForm := [
  ⟨.rolZp z, [0x26, z], .zp z, 5⟩,
  ⟨.rolZpx z, [0x36, z], .zpx z, 6⟩,
  ⟨.rolAbs addr, [0x2E, lo8 addr, hi8 addr], .abs addr, 6⟩,
  ⟨.rolAbx addr, [0x3E, lo8 addr, hi8 addr], .abx addr, 7⟩ ]

/-- ROR (R163): instruction, bytes, mode, cycles. -/
def rorForms (z : Byte) (addr : Word) : List StoreForm := [
  ⟨.rorZp z, [0x66, z], .zp z, 5⟩,
  ⟨.rorZpx z, [0x76, z], .zpx z, 6⟩,
  ⟨.rorAbs addr, [0x6E, lo8 addr, hi8 addr], .abs addr, 6⟩,
  ⟨.rorAbx addr, [0x7E, lo8 addr, hi8 addr], .abx addr, 7⟩ ]

/-- The eight branches (R181 to R188). -/
def branchForms (off : Byte) : List BranchForm := [
  ⟨.bcc off, [0x90, off], fun p => p.getLsbD 0 == false⟩,
  ⟨.bcs off, [0xB0, off], fun p => p.getLsbD 0 == true⟩,
  ⟨.beq off, [0xF0, off], fun p => p.getLsbD 1 == true⟩,
  ⟨.bmi off, [0x30, off], fun p => p.getLsbD 7 == true⟩,
  ⟨.bne off, [0xD0, off], fun p => p.getLsbD 1 == false⟩,
  ⟨.bpl off, [0x10, off], fun p => p.getLsbD 7 == false⟩,
  ⟨.bvc off, [0x50, off], fun p => p.getLsbD 6 == false⟩,
  ⟨.bvs off, [0x70, off], fun p => p.getLsbD 6 == true⟩ ]

/-- The 27 skip opcodes (R90). -/
def skipForms : List SkipForm := [
  ⟨.skip04, 0x04, 2, 3⟩, ⟨.skip0C, 0x0C, 3, 4⟩, ⟨.skip14, 0x14, 2, 4⟩, ⟨.skip1A, 0x1A, 1, 2⟩,
  ⟨.skip1C, 0x1C, 3, 4⟩, ⟨.skip34, 0x34, 2, 4⟩, ⟨.skip3A, 0x3A, 1, 2⟩, ⟨.skip3C, 0x3C, 3, 4⟩,
  ⟨.skip44, 0x44, 2, 3⟩, ⟨.skip54, 0x54, 2, 4⟩, ⟨.skip5A, 0x5A, 1, 2⟩, ⟨.skip5C, 0x5C, 3, 4⟩,
  ⟨.skip64, 0x64, 2, 3⟩, ⟨.skip74, 0x74, 2, 4⟩, ⟨.skip7A, 0x7A, 1, 2⟩, ⟨.skip7C, 0x7C, 3, 4⟩,
  ⟨.skip80, 0x80, 2, 2⟩, ⟨.skip82, 0x82, 2, 2⟩, ⟨.skip89, 0x89, 2, 2⟩, ⟨.skipC2, 0xC2, 2, 2⟩,
  ⟨.skipD4, 0xD4, 2, 4⟩, ⟨.skipDA, 0xDA, 1, 2⟩, ⟨.skipDC, 0xDC, 3, 4⟩, ⟨.skipE2, 0xE2, 2, 2⟩,
  ⟨.skipF4, 0xF4, 2, 4⟩, ⟨.skipFA, 0xFA, 1, 2⟩, ⟨.skipFC, 0xFC, 3, 4⟩ ]

/-- The 78 unknown opcodes, as R91 lists them. -/
def unknownOpcodes : List Byte := [
  0x02, 0x03, 0x07, 0x0B, 0x0F, 0x12, 0x13, 0x17, 0x1B, 0x1F, 0x22, 0x23, 0x27,
  0x2B, 0x2F, 0x32, 0x33, 0x37, 0x3B, 0x3F, 0x42, 0x43, 0x47, 0x4B, 0x4F, 0x52,
  0x53, 0x57, 0x5B, 0x5F, 0x62, 0x63, 0x67, 0x6B, 0x6F, 0x72, 0x73, 0x77, 0x7B,
  0x7F, 0x83, 0x87, 0x8B, 0x8F, 0x92, 0x93, 0x97, 0x9B, 0x9C, 0x9E, 0x9F, 0xA3,
  0xA7, 0xAB, 0xAF, 0xB2, 0xB3, 0xB7, 0xBB, 0xBF, 0xC3, 0xC7, 0xCB, 0xCF, 0xD2,
  0xD3, 0xD7, 0xDB, 0xDF, 0xE3, 0xE7, 0xEB, 0xEF, 0xF2, 0xF3, 0xF7, 0xFB, 0xFF ]

/-- The read-type forms of every instruction that has them. -/
def readForms (v z : Byte) (addr : Word) : List ReadForm :=
  ldaForms v z addr ++ ldxForms v z addr ++ ldyForms v z addr ++ andForms v z addr ++ oraForms v z addr ++ eorForms v z addr ++
    bitForms z addr ++ adcForms v z addr ++ sbcForms v z addr ++ cmpForms v z addr ++ cpxForms v z addr ++ cpyForms v z addr

/-- The store-type forms. -/
def storeForms (z : Byte) (addr : Word) : List StoreForm := staForms z addr ++ stxForms z addr ++ styForms z addr

/-- The read-modify-write forms on memory. -/
def modifyForms (z : Byte) (addr : Word) : List StoreForm :=
  incForms z addr ++ decForms z addr ++ aslForms z addr ++ lsrForms z addr ++ rolForms z addr ++ rorForms z addr

/-- The instructions that make no bus access: transfers, register increments, accumulator shifts, flag instructions, NOP, JMP
to an absolute address. -/
def registerForms (addr : Word) : List Instr :=
  [.tax, .tay, .txa, .tya, .tsx, .txs, .inx, .iny, .dex, .dey, .aslAcc, .lsrAcc, .rolAcc, .rorAcc,
   .clc, .cld, .cli, .clv, .sec, .sed, .sei, .nop, .jmpAbs addr]

/-- The state of the PPU engine outside the byte array is the same (R24 to R26, R30, R31). -/
def SamePpu (s t : State) : Prop :=
  t.cycle = s.cycle ∧ t.scanline = s.scanline ∧ t.frameCount = s.frameCount ∧ t.w = s.w ∧
  t.suppressVbl = s.suppressVbl ∧ t.suppressNmi = s.suppressNmi

/-- The PPU position is in range (R24, R25). -/
def InRange (s : State) : Prop := s.cycle < 341 ∧ -1 ≤ s.scanline ∧ s.scanline ≤ 260

/-- Byte `k` of the stack page below the top: the address of the `k`-th push from `s` (R120). -/
def stackTop (s : State) (k : Nat) : Word := stackAddr (s.sp - BitVec.ofNat 8 k)

/-- The address of the `k`-th pull from `s`, counted from 1 (R121). -/
def stackPull (s : State) (k : Nat) : Word := stackAddr (s.sp + BitVec.ofNat 8 k)

/-- How many bytes the fetch of an instruction reads: all of them, but only the opcode of a skip opcode (R92). -/
def fetchLength (i : Instr) : Nat :=
  match encode i with
  | [] => 0
  | op :: rest => if classify op = .skip then 1 else rest.length + 1

/-- Two addresses reach the same storage (R41, R42), said by regions and remainders. -/
def SameStorage (a b : Nat) : Prop :=
  (a < 0x2000 ∧ b < 0x2000 ∧ a % 0x800 = b % 0x800) ∨
  (0x2000 ≤ a ∧ a < 0x4000 ∧ 0x2000 ≤ b ∧ b < 0x4000 ∧ a % 8 = b % 8) ∨
  (0x4000 ≤ a ∧ a < 0x8000 ∧ a = b) ∨
  (0x8000 ≤ a ∧ 0x8000 ≤ b ∧ a % 0x4000 = b % 0x4000)

end Sys2Proof.Claims

open Sys2Proof Sys2Proof.Machine Sys2Proof.Claims

/-! ## Encoding -/

/-- R70, R89, R90: words written out from the opcode map, one or more of every family, decode to what they stand for. -/
def Obligations.SpecWordsDecode : Prop :=
  decode [0xA9, 0x80] = .ok (.ldaImm 0x80, []) ∧ decode [0xBD, 0x34, 0x12, 0xEA] = .ok (.ldaAbx 0x1234, [0xEA]) ∧
  decode [0x96, 0x10] = .ok (.stxZpy 0x10, []) ∧ decode [0x9A] = .ok (.txs, []) ∧ decode [0x28] = .ok (.plp, []) ∧
  decode [0x2C, 0x02, 0x20] = .ok (.bitAbs 0x2002, []) ∧ decode [0x71, 0x10] = .ok (.adcIzy 0x10, []) ∧
  decode [0xDE, 0xFF, 0x02] = .ok (.decAbx 0x02FF, []) ∧ decode [0x6A] = .ok (.rorAcc, []) ∧
  decode [0x6C, 0xFF, 0x02] = .ok (.jmpInd 0x02FF, []) ∧ decode [0x20, 0x06, 0xC0] = .ok (.jsr 0xC006, []) ∧
  decode [0xD0, 0xF8] = .ok (.bne 0xF8, []) ∧ decode [0x78] = .ok (.sei, []) ∧ decode [0x00, 0xFF] = .ok (.brk, [0xFF]) ∧
  decode [0x1C, 0xFF, 0x20, 0x1A] = .ok (.skip1C, [0x1A]) ∧ decode [0x02] = .error (.unknownOpcode 0x02) ∧
  decodeTableWord 24 0x1234BD = some (.ldaAbx 0x1234)

/-- R70, R89, R90: decoding the bytes of any instruction, followed by anything, gives back that instruction and what followed. -/
def Obligations.DecodeEncodeAgree : Prop :=
  ∀ (i : Instr) (rest : List Byte), decode (encode i ++ rest) = .ok (i, rest)

/-- R89, R90, R92: bytes that decode are the bytes of the decoded instruction; for a skip opcode the opcode byte and the length
are, and the passed-over bytes are free (the encoder writes them as zero, log 8). -/
def Obligations.DecodedBytesReencode : Prop :=
  ∀ (op : Byte) (bs : List Byte) (i : Instr) (rest : List Byte), decode (op :: bs) = .ok (i, rest) →
    (classify op = .official → op :: bs = encode i ++ rest) ∧
    (classify op = .skip → (encode i).head? = some op ∧ (encode i).length ≤ bs.length + 1 ∧
      rest = (op :: bs).drop (encode i).length)

/-- R72, R91, R92: the opcode byte alone decides. Exactly the 78 listed bytes are refused, as unknown opcodes; with any other
first byte and two more bytes there is an instruction of 1 to 3 bytes, whatever the two bytes are. -/
def Obligations.UnknownOpcodesAreRefused : Prop :=
  ∀ (op b1 b2 : Byte) (rest : List Byte),
    (op ∈ unknownOpcodes → decode (op :: b1 :: b2 :: rest) = .error (.unknownOpcode op)) ∧
    (op ∉ unknownOpcodes → ∃ i, (encode i).head? = some op ∧ 1 ≤ (encode i).length ∧ (encode i).length ≤ 3 ∧
      decode (op :: b1 :: b2 :: rest) = .ok (i, (op :: b1 :: b2 :: rest).drop (encode i).length))

/-! ## The step -/

/-- R71, R340: when the bytes behind `pc` decode to `i`, a step of an unfaulted machine without a pending NMI is `exec i` on the
state whose `pc` is past the fetched bytes, followed by the PPU ticks; the fetch has no other effect, unless a fetched byte is
the PPU status register. -/
def Obligations.StepRunsTheDecodedInstruction : Prop :=
  ∀ (s : State) (i : Instr) (rest : List Byte), s.fault = none → s.nmiPending = false →
    decode [peek s s.pc, peek s (s.pc + 1), peek s (s.pc + 2)] = .ok (i, rest) →
    ∃ u t, exec i u = .next t ∧ step s = .next (settle t) ∧
      ((∀ k < fetchLength i, canon (s.pc + BitVec.ofNat 16 k) ≠ 0x2002) →
        u = { s with pc := s.pc + BitVec.ofNat 16 (fetchLength i), cycleCount := 0 }) ∧
      ((∃ k < fetchLength i, canon (s.pc + BitVec.ofNat 16 k) = 0x2002) →
        u = { statusReadEffects s with pc := s.pc + BitVec.ofNat 16 (fetchLength i), cycleCount := 0 })

/-- R301: an unknown opcode records the fault, leaves `pc` one past the opcode, changes nothing else (but for the side effects of
an opcode fetched from the status register) and runs no PPU tick. That the step answers this state, and the fault only from then
on, is the model's reading of R303 (log 1). -/
def Obligations.UnknownOpcodeFaults : Prop :=
  ∀ s : State, s.fault = none → s.nmiPending = false → peek s s.pc ∈ unknownOpcodes →
    (canon s.pc ≠ 0x2002 → step s = .next
      { s with pc := s.pc + 1, cycleCount := 0, fault := some (.unknownOpcode (peek s s.pc)) }) ∧
    (canon s.pc = 0x2002 → step s = .next
      { statusReadEffects s with pc := s.pc + 1, cycleCount := 0, fault := some (.unknownOpcode (peek s s.pc)) })

/-- R303, R361: a machine in the fault state answers its fault to every run of one or more steps, and whatever is asked of it from
outside leaves it as it is: a CPU reset, the conformance override, a bus request at any address (which answers no byte) and a program
load (which answers the fault). The record as state and these answers are the model's reading (logs 1, 13, 14). -/
def Obligations.FaultedMachineStaysStopped : Prop :=
  ∀ (s : State) (r : Fault), s.fault = some r →
    (∀ n : Nat, Host.Core.run Sys2Proof.core (n + 1) s = .fault r) ∧
    (∀ par : Config.OpenParams, cpuReset par s = s) ∧ conformanceOverride s = s ∧
    (∀ (addr : Int) (v : Byte), portRead addr s = (none, s) ∧ portWrite addr v s = s) ∧
    ∀ prg : List Byte, loadRom prg s = .fault r

/-- R341, R57: a step of an unfaulted machine answers a next state, and the only fault it can record is an unknown opcode, one of
the 78. That the step which meets an unknown opcode is among those that answer a next state (the faulted one) is the model's reading
of R303 (log 1). -/
def Obligations.UnfaultedStepAnswersNext : Prop :=
  ∀ s : State, s.fault = none → ∃ t, step s = .next t ∧
    (t.fault = none ∨ ∃ op ∈ unknownOpcodes, t.fault = some (.unknownOpcode op))

/-- R19, R87: a step that does not end in the fault state took 2 to 7 cycles. -/
def Obligations.StepTakesTwoToSevenCycles : Prop :=
  ∀ s t : State, step s = .next t → t.fault = none → 2 ≤ t.cycleCount ∧ t.cycleCount ≤ 7

/-- R340, R379: every step moves the PPU three positions for each cycle it took. -/
def Obligations.StepRunsThreeTicksPerCycle : Prop :=
  ∀ s t : State, InRange s → step s = .next t → InRange t ∧ dots t = dots s + 3 * t.cycleCount

/-- Every step keeps the invariant of the machine. -/
def Obligations.StepKeepsInvariant : Prop :=
  ∀ s t : State, s.Inv → step s = .next t → t.Inv

/-- The state after reset meets the invariant. Its `p`, memory and PPU position are the recommended values of OPEN parameters
(logs 2, 3, 4), and its `pc` is that of an empty image (log 5). -/
def Obligations.ResetMeetsInvariant : Prop := State.reset.Inv

/-- R50, R64: no step changes what any address of the program ROM reads as. -/
def Obligations.StepKeepsProgramRom : Prop :=
  ∀ (s t : State) (addr : Word), step s = .next t → 0x8000 ≤ addr.toNat → peek t addr = peek s addr

/-- R15: once bits 5 and 4 of the status register are 1 and 0 they stay so. -/
def Obligations.StepKeepsStatusNormalForm : Prop :=
  ∀ s t : State, step s = .next t → s.p.getLsbD 5 = true → s.p.getLsbD 4 = false →
    t.p.getLsbD 5 = true ∧ t.p.getLsbD 4 = false

/-- R335: nothing sets Sprite0Hit or SpriteOverflow: clear, they stay clear. -/
def Obligations.SpriteFlagsStayClear : Prop :=
  ∀ s t : State, s.mem.wf → step s = .next t → ppuStatus s &&& 0x60 = 0 → ppuStatus t &&& 0x60 = 0

/-! ## Interrupt entry -/

/-- R307: a pending NMI is taken before any fetch. The CPU step pushes `pc` high then low and the status with bit 4 clear and bit
5 set, sets I, goes through the vector 0xFFFA and takes 7 cycles; nothing else changes. The step is that entry and its 21 PPU ticks (R340). -/
def Obligations.NmiEntersThroughVector : Prop :=
  ∀ s : State, s.fault = none → s.nmiPending = true → ∃ q, ({ i := some true } : FlagEffect).Holds s.p q ∧
    ∃ u, u =
      { memWrite (stackTop s 2) ((s.p &&& 0xEF) ||| 0x20) (memWrite (stackTop s 1) (lo8 s.pc) (memWrite (stackTop s 0) (hi8 s.pc) s)) with
        nmiPending := false
        sp := s.sp - 3
        p := q
        pc := word (peek s 0xFFFB) (peek s 0xFFFA)
        cycleCount := 7 } ∧
      cpuStep s = .next u ∧ step s = .next (ppuTicks 21 u)

/-- R199, R307: an NMI entry followed at once by RTI resumes at the same `pc` and `sp` with bits 5, 4 of the status forced to 1,
0; only the three stack bytes below the old `sp` have changed. -/
def Obligations.NmiThenRtiResumes : Prop :=
  ∀ s : State, s.mem.wf → s.fault = none → s.nmiPending = true → ∃ t u, cpuStep s = .next t ∧ exec .rti t = .next u ∧
    u = { s with mem := u.mem, p := (s.p &&& 0xCF) ||| 0x20, nmiPending := false, cycleCount := 6 } ∧
    ∀ b, canon b ≠ stackTop s 0 → canon b ≠ stackTop s 1 → canon b ≠ stackTop s 2 → peek u b = peek s b

/-! ## Reset and the outside -/

/-- R360, R361: a CPU reset sets the registers, takes `pc` from the reset vector, clears the NMI latch, and leaves memory and PPU
alone; it never clears a fault. (What a faulted machine keeps is in `FaultedMachineStaysStopped`.) -/
def Obligations.CpuResetSetsRegisters : Prop :=
  ∀ (par : Config.OpenParams) (s : State), (cpuReset par s).fault = s.fault ∧
    (s.fault = none → cpuReset par s =
      { s with
        a := 0x00, x := 0x00, y := 0x00
        p := par.resetP
        sp := 0xFD
        pc := word (peek s 0xFFFD) (peek s 0xFFFC)
        nmiPending := false
        cycleCount := 0 })

/-- R49, R51: a program image of 16384 bytes reads at 0x8000 and again at 0xC000, leaves everything else alone and keeps the
byte array canonical; an image of another size is refused. The spec gives the load before the first CPU reset; that it may be done in
every state without a fault, and the name of the refusal, are the model's choice (log 14). On a faulted machine see
`FaultedMachineStaysStopped`. -/
def Obligations.LoadedRomIsMirrored : Prop :=
  ∀ (prg : List Byte) (s : State), s.fault = none →
    (prg.length = 16384 → ∃ t, loadRom prg s = .next t ∧ t = { s with mem := t.mem } ∧ (s.mem.wf → t.mem.wf) ∧
      (∀ k < 0x4000, memRead (BitVec.ofNat 16 (0x8000 + k)) t = (prg.getD k 0, t) ∧
        memRead (BitVec.ofNat 16 (0xC000 + k)) t = (prg.getD k 0, t)) ∧
      ∀ addr : Word, addr.toNat < 0x8000 → peek t addr = peek s addr) ∧
    (prg.length ≠ 16384 → loadRom prg s = .refused (.romImageSize prg.length))

/-- R32, R364, R365: power-on with a 16384-byte image gives the reset values, `pc` from the image's reset vector, the PPU at
PPU_INIT with clear registers and latches, the image at 0x8000 and again at 0xC000; the conformance override then sets `pc` and `p`
only. In RAM, I/O storage and cartridge-low storage an address reads the byte `memInit` lists last for its storage, and zero where it
lists none; the form of MEM_INIT as a list and the zero are the model's choice (log 3). -/
def Obligations.PowerOnGivesStartState : Prop :=
  ∀ (par : Config.OpenParams) (prg : List Byte), prg.length = 16384 → ∃ t, powerOn par prg = .next t ∧
    t = { mem := t.mem, a := 0x00, x := 0x00, y := 0x00, p := par.resetP, sp := 0xFD,
          pc := word (prg.getD 0x3FFD 0) (prg.getD 0x3FFC 0), nmiPending := false, cycleCount := 0, fault := none,
          cycle := par.ppuInit.1, scanline := par.ppuInit.2.1, frameCount := par.ppuInit.2.2, w := false,
          suppressVbl := false, suppressNmi := false } ∧
    t.mem.wf ∧ (∀ addr : Word, 0x8000 ≤ addr.toNat → peek t addr = prg.getD (addr.toNat % 0x4000) 0) ∧
    (∀ addr : Word, 0x2000 ≤ addr.toNat → addr.toNat < 0x4000 → peek t addr = 0) ∧
    (∀ addr : Word, addr.toNat < 0x2000 ∨ (0x4000 ≤ addr.toNat ∧ addr.toNat < 0x8000) →
      ((∀ c ∈ par.memInit, ¬SameStorage c.1.toNat addr.toNat) → peek t addr = 0) ∧
      ∀ before c after, par.memInit = before ++ c :: after → SameStorage c.1.toNat addr.toNat →
        (∀ d ∈ after, ¬SameStorage d.1.toNat addr.toNat) → peek t addr = c.2) ∧
    conformanceOverride t = { t with pc := 0xC000, p := 0x24 }

/-- R302, R303: a bus request outside the 16-bit space makes no access and puts the machine in the fault state; inside, it is the
bus operation of its address. The port as a function with an optional byte is the model's (log 14). -/
def Obligations.PortOutOfSpaceFaults : Prop :=
  ∀ (addr : Int) (v : Byte) (s : State), s.fault = none →
    (addr < 0 ∨ 65535 < addr →
      portRead addr s = (none, { s with fault := some (.addressOutOfBounds addr) }) ∧
      portWrite addr v s = { s with fault := some (.addressOutOfBounds addr) } ∧
      step (portWrite addr v s) = .fault (.addressOutOfBounds addr)) ∧
    (∀ k : Word, addr = k.toNat →
      portRead addr s = (some (memRead k s).1, (memRead k s).2) ∧ portWrite addr v s = memWrite k v s)

/-! ## The bus -/

/-- An address whose write stores the byte: not program ROM, not the status register (R44, R50, R332). -/
def Sys2Proof.Claims.Writable (a : Nat) : Prop := a < 0x8000 ∧ ¬(0x2000 ≤ a ∧ a < 0x4000 ∧ a % 8 = 2)

/-- R44, R45, R47, R48, R50, R331, R332: a write is read back at every address of the same storage and nowhere else, ROM and the
status register ignore it, a write to PPU register 5 or 6 flips `w`, and nothing else changes. -/
def Obligations.BusWriteStoresOneCell : Prop :=
  ∀ (s : State) (a b : Word) (v : Byte), s.mem.wf →
    (Writable a.toNat ∧ SameStorage a.toNat b.toNat → peek (memWrite a v s) b = v) ∧
    (¬(Writable a.toNat ∧ SameStorage a.toNat b.toNat) → peek (memWrite a v s) b = peek s b) ∧
    (memWrite a v s).w = (s.w ^^ decide (0x2000 ≤ a.toNat ∧ a.toNat < 0x4000 ∧ (a.toNat % 8 = 5 ∨ a.toNat % 8 = 6))) ∧
    memWrite a v s = { s with mem := (memWrite a v s).mem, w := (memWrite a v s).w }

/-- R43, R55: a bus read answers the stored byte and, at any address but an image of the status register, changes nothing; a
read-type instruction makes exactly one such read, and none for an immediate operand (R86). -/
def Obligations.ReadsAreIdempotentButStatus : Prop :=
  ∀ (s : State) (a : Word) (v : Byte) (m : MemMode),
    (memRead a s).1 = peek s a ∧
    (¬(0x2000 ≤ a.toNat ∧ a.toNat < 0x4000 ∧ a.toNat % 8 = 2) → (memRead a s).2 = s) ∧
    readSource (.imm v) s = { value := v, crossed := false, state := s } ∧
    readSource (.mem m) s = { value := peek s (locate m s).ea, crossed := (locate m s).crossed, state := (memRead (locate m s).ea s).2 }

/-- R329, R330: a read of any image of the status register answers the byte before the clear, clears VBlank and no other bit, resets
`w`, sets both suppression flags exactly when the PPU is at (240, 0), and changes nothing else. -/
def Obligations.StatusReadClearsVBlank : Prop :=
  ∀ (s : State) (a : Word), s.mem.wf → 0x2000 ≤ a.toNat → a.toNat < 0x4000 → a.toNat % 8 = 2 →
    ∃ t, memRead a s = (peek s 0x2002, t) ∧ peek t 0x2002 = peek s 0x2002 &&& 0x7F ∧
      (∀ b : Word, canon b ≠ 0x2002 → peek t b = peek s b) ∧
      t = { s with
        mem := t.mem
        w := false
        suppressVbl := s.suppressVbl || (s.scanline == 240 && s.cycle == 0)
        suppressNmi := s.suppressNmi || (s.scanline == 240 && s.cycle == 0) }

/-! ## The PPU -/

/-- R321: a tick moves the counters by one position: cycle 0 to 340, line -1 to 260, then the next frame; 262 lines of 341 ticks, so
that 89342 ticks are one frame. -/
def Obligations.TickAdvancesCounters : Prop :=
  ∀ s : State,
    (ppuTick s).cycle = (if s.cycle = 340 then 0 else s.cycle + 1) ∧
    (ppuTick s).scanline = (if s.cycle = 340 then (if s.scanline = 260 then -1 else s.scanline + 1) else s.scanline) ∧
    (ppuTick s).frameCount = (if s.cycle = 340 ∧ s.scanline = 260 then s.frameCount + 1 else s.frameCount) ∧
    (InRange s → InRange (ppuTick s) ∧ (ppuTicks 89342 s).cycle = s.cycle ∧ (ppuTicks 89342 s).scanline = s.scanline ∧
      (ppuTicks 89342 s).frameCount = s.frameCount + 1)

/-- R322: the tick arriving at (240, 1) sets VBlank unless suppressed, requests the NMI if it is enabled and not suppressed, and
consumes the suppression flags; nothing else changes. -/
def Obligations.VBlankSetTick : Prop :=
  ∀ s : State, s.mem.wf → s.scanline = 240 → s.cycle = 0 →
    peek (ppuTick s) 0x2002 = (if s.suppressVbl then peek s 0x2002 else peek s 0x2002 ||| 0x80) ∧
    (∀ b : Word, canon b ≠ 0x2002 → peek (ppuTick s) b = peek s b) ∧
    ppuTick s = { s with
      cycle := 1
      mem := (ppuTick s).mem
      nmiPending := s.nmiPending || ((peek s 0x2000).getLsbD 7 && !s.suppressNmi)
      suppressVbl := false
      suppressNmi := false }

/-- R323: the tick arriving at (260, 1) clears VBlank and no other bit, and changes nothing else; with no status read between, the bit
set at (240, 1) is 1 for 6820 positions, up to (260, 0). -/
def Obligations.VBlankClearTick : Prop :=
  ∀ s : State, s.mem.wf →
    (s.scanline = 260 → s.cycle = 0 →
      peek (ppuTick s) 0x2002 = peek s 0x2002 &&& 0x7F ∧ (∀ b : Word, canon b ≠ 0x2002 → peek (ppuTick s) b = peek s b) ∧
      ppuTick s = { s with cycle := 1, mem := (ppuTick s).mem }) ∧
    (s.scanline = 240 → s.cycle = 1 → (peek s 0x2002).getLsbD 7 = true →
      (∀ n < 6820, (peek (ppuTicks n s) 0x2002).getLsbD 7 = true) ∧ (peek (ppuTicks 6820 s) 0x2002).getLsbD 7 = false)

/-- R324: the tick arriving at (-1, 1) clears the two sprite flags and no other bit, and changes nothing else. -/
def Obligations.SpriteClearTick : Prop :=
  ∀ s : State, s.mem.wf → s.scanline = -1 → s.cycle = 0 →
    peek (ppuTick s) 0x2002 = peek s 0x2002 &&& 0x9F ∧ (∀ b : Word, canon b ≠ 0x2002 → peek (ppuTick s) b = peek s b) ∧
    ppuTick s = { s with cycle := 1, mem := (ppuTick s).mem }

/-- R325, R326: every tick that does not arrive at (240, 1), (260, 1) or (-1, 1) only advances the counters. -/
def Obligations.OtherTicksOnlyCount : Prop :=
  ∀ s : State, ¬(s.cycle = 0 ∧ (s.scanline = 240 ∨ s.scanline = 260 ∨ s.scanline = -1)) →
    ppuTick s = { s with
      cycle := (ppuTick s).cycle, scanline := (ppuTick s).scanline, frameCount := (ppuTick s).frameCount }

/-- R330: after a status read at (240, 0) the set tick neither sets VBlank nor requests the NMI, and the suppression ends there: the bit
is 0 and the NMI latch as it was after each of the 89342 ticks up to (240, 0) of the next frame, and the tick after them sets the bit
and requests the NMI if it is enabled. -/
def Obligations.StatusReadRaceSuppressesFrame : Prop :=
  ∀ (s : State) (a : Word), s.mem.wf → canon a = 0x2002 → s.scanline = 240 → s.cycle = 0 →
    ∃ r, memRead a s = (peek s 0x2002, r) ∧
      (∃ t, ppuTick r = t ∧ (peek t 0x2002).getLsbD 7 = false ∧ t.nmiPending = s.nmiPending ∧
        t.suppressVbl = false ∧ t.suppressNmi = false ∧ t.w = false ∧ t.cycle = 1 ∧ t.scanline = 240) ∧
      (∀ n ≤ 89342, (peek (ppuTicks n r) 0x2002).getLsbD 7 = false ∧ (ppuTicks n r).nmiPending = s.nmiPending) ∧
      (peek (ppuTicks 89343 r) 0x2002).getLsbD 7 = true ∧
      (ppuTicks 89343 r).nmiPending = (s.nmiPending || (peek s 0x2000).getLsbD 7)

/-- R321: a frame is 262 times 341 ticks: after 89342 ticks from any position in range the PPU is at the same position, one frame
later. -/
def Obligations.FrameIsPeriodic : Prop :=
  ∀ (s : State) (n : Nat), InRange s → (ppuTicks (89342 * n) s).cycle = s.cycle ∧ (ppuTicks (89342 * n) s).scanline = s.scanline ∧
    (ppuTicks (89342 * n) s).frameCount = s.frameCount + n

/-! ## Addressing modes -/

/-- R76 to R81, R83, R84: the effective address of every memory mode as a number, with its wraps, the page-cross bit, and no side
effect. -/
def Obligations.AddressingModesLocate : Prop :=
  ∀ (s : State) (z : Byte) (addr : Word) (zero : Nat → Nat),
    (∀ k, zero k = (peek s (BitVec.ofNat 16 (k % 256))).toNat + 256 * (peek s (BitVec.ofNat 16 ((k + 1) % 256))).toNat) →
    (∀ m, (locate m s).state = s) ∧
    ((locate (.zp z) s).ea.toNat = z.toNat ∧ (locate (.zp z) s).crossed = false) ∧
    ((locate (.zpx z) s).ea.toNat = (z.toNat + s.x.toNat) % 256 ∧ (locate (.zpx z) s).crossed = false) ∧
    ((locate (.zpy z) s).ea.toNat = (z.toNat + s.y.toNat) % 256 ∧ (locate (.zpy z) s).crossed = false) ∧
    ((locate (.abs addr) s).ea = addr ∧ (locate (.abs addr) s).crossed = false) ∧
    ((locate (.abx addr) s).ea.toNat = (addr.toNat + s.x.toNat) % 65536 ∧
      (locate (.abx addr) s).crossed = decide ((addr.toNat + s.x.toNat) % 65536 / 256 ≠ addr.toNat / 256)) ∧
    ((locate (.aby addr) s).ea.toNat = (addr.toNat + s.y.toNat) % 65536 ∧
      (locate (.aby addr) s).crossed = decide ((addr.toNat + s.y.toNat) % 65536 / 256 ≠ addr.toNat / 256)) ∧
    ((locate (.izx z) s).ea.toNat = zero (z.toNat + s.x.toNat) ∧ (locate (.izx z) s).crossed = false) ∧
    ((locate (.izy z) s).ea.toNat = (zero z.toNat + s.y.toNat) % 65536 ∧
      (locate (.izy z) s).crossed = decide ((zero z.toNat + s.y.toNat) % 65536 / 256 ≠ zero z.toNat / 256))

/-! ## Instructions -/

/-- R100 to R102: LDA, LDX, LDY in every form load the operand byte and set Z and N from it; every form answers a next state. -/
def Obligations.LoadsWriteRegister : Prop :=
  ∀ (s : State) (v z : Byte) (addr : Word),
    (∀ f ∈ ldaForms v z addr, encode f.instr = f.bytes ∧ ∀ o, o = readSource f.source s →
      Runs f.instr s { o.state with a := o.value, cycleCount := f.base + o.crossed.toNat } (zn o.value)) ∧
    (∀ f ∈ ldxForms v z addr, encode f.instr = f.bytes ∧ ∀ o, o = readSource f.source s →
      Runs f.instr s { o.state with x := o.value, cycleCount := f.base + o.crossed.toNat } (zn o.value)) ∧
    (∀ f ∈ ldyForms v z addr, encode f.instr = f.bytes ∧ ∀ o, o = readSource f.source s →
      Runs f.instr s { o.state with y := o.value, cycleCount := f.base + o.crossed.toNat } (zn o.value))

/-- R130 to R133: AND, ORA, EOR combine the operand into `a` bit by bit; BIT only sets Z from `a & m`, N and V from the operand. -/
def Obligations.LogicCombinesWithAccumulator : Prop :=
  ∀ (s : State) (v z : Byte) (addr : Word),
    (∀ f ∈ andForms v z addr, encode f.instr = f.bytes ∧ ∀ o r, o = readSource f.source s →
      (∀ k < 8, r.getLsbD k = (s.a.getLsbD k && o.value.getLsbD k)) →
      Runs f.instr s { o.state with a := r, cycleCount := f.base + o.crossed.toNat } (zn r)) ∧
    (∀ f ∈ oraForms v z addr, encode f.instr = f.bytes ∧ ∀ o r, o = readSource f.source s →
      (∀ k < 8, r.getLsbD k = (s.a.getLsbD k || o.value.getLsbD k)) →
      Runs f.instr s { o.state with a := r, cycleCount := f.base + o.crossed.toNat } (zn r)) ∧
    (∀ f ∈ eorForms v z addr, encode f.instr = f.bytes ∧ ∀ o r, o = readSource f.source s →
      (∀ k < 8, r.getLsbD k = (s.a.getLsbD k ^^ o.value.getLsbD k)) →
      Runs f.instr s { o.state with a := r, cycleCount := f.base + o.crossed.toNat } (zn r)) ∧
    (∀ f ∈ bitForms z addr, encode f.instr = f.bytes ∧ ∀ o, o = readSource f.source s →
      Runs f.instr s { o.state with cycleCount := f.base + o.crossed.toNat }
        { z := some (decide (s.a &&& o.value = 0)), n := some (o.value.getLsbD 7), v := some (o.value.getLsbD 6) })

/-- R144 with R141, R142: ADC in every form: the widened sum, Carry when it exceeds 255, Overflow when the operands share a sign the
result does not have. -/
def Obligations.AdcAddsWithCarry : Prop :=
  ∀ (s : State) (v z : Byte) (addr : Word), ∀ f ∈ adcForms v z addr, encode f.instr = f.bytes ∧
    ∀ (o : Operand) (t : Nat) (r : Byte), o = readSource f.source s →
      t = s.a.toNat + o.value.toNat + (s.p.getLsbD 0).toNat → r = BitVec.ofNat 8 (t % 256) →
      Runs f.instr s { o.state with a := r, cycleCount := f.base + o.crossed.toNat }
        { czn (decide (255 < t)) r with
          v := some (decide (s.a.getLsbD 7 = o.value.getLsbD 7 ∧ r.getLsbD 7 ≠ s.a.getLsbD 7)) }

/-- R145 with R141, R142: SBC in every form: the widened difference with the complement of Carry as borrow, Carry when it is not
negative, Overflow when the operands' signs differ and the result's sign is not the minuend's. -/
def Obligations.SbcSubtractsWithBorrow : Prop :=
  ∀ (s : State) (v z : Byte) (addr : Word), ∀ f ∈ sbcForms v z addr, encode f.instr = f.bytes ∧
    ∀ (o : Operand) (t : Int) (r : Byte), o = readSource f.source s →
      t = s.a.toNat - o.value.toNat - (1 - (s.p.getLsbD 0).toNat) → r = BitVec.ofNat 8 (t % 256).toNat →
      Runs f.instr s { o.state with a := r, cycleCount := f.base + o.crossed.toNat }
        { czn (decide (0 ≤ t)) r with
          v := some (decide (s.a.getLsbD 7 ≠ o.value.getLsbD 7 ∧ r.getLsbD 7 ≠ s.a.getLsbD 7)) }

/-- R145: SBC with an immediate operand is ADC with its complement, for every state: same `a`, same flags. -/
def Obligations.SbcIsAdcOfComplement : Prop :=
  ∀ (v : Byte) (s : State), exec (.sbcImm v) s = exec (.adcImm (v ^^^ 0xFF)) s

/-- R146 to R148: CMP, CPX, CPY set Carry when the register is not below the operand, Z and N from the difference, and write no
register and no Overflow. -/
def Obligations.ComparesOnlySetFlags : Prop :=
  ∀ (s : State) (v z : Byte) (addr : Word),
    (∀ f ∈ cmpForms v z addr, encode f.instr = f.bytes ∧ ∀ (o : Operand) (t : Int), o = readSource f.source s →
      t = s.a.toNat - o.value.toNat →
      Runs f.instr s { o.state with cycleCount := f.base + o.crossed.toNat } (czn (decide (0 ≤ t)) (BitVec.ofNat 8 (t % 256).toNat))) ∧
    (∀ f ∈ cpxForms v z addr, encode f.instr = f.bytes ∧ ∀ (o : Operand) (t : Int), o = readSource f.source s →
      t = s.x.toNat - o.value.toNat →
      Runs f.instr s { o.state with cycleCount := f.base + o.crossed.toNat } (czn (decide (0 ≤ t)) (BitVec.ofNat 8 (t % 256).toNat))) ∧
    (∀ f ∈ cpyForms v z addr, encode f.instr = f.bytes ∧ ∀ (o : Operand) (t : Int), o = readSource f.source s →
      t = s.y.toNat - o.value.toNat →
      Runs f.instr s { o.state with cycleCount := f.base + o.crossed.toNat } (czn (decide (0 ≤ t)) (BitVec.ofNat 8 (t % 256).toNat)))

/-- R143: the decimal flag changes no result of ADC or SBC: two states that differ in D only end in states that differ in D
only. -/
def Obligations.ArithmeticIgnoresDecimal : Prop :=
  ∀ (s t : State) (v z : Byte) (addr : Word) (b : Bool), ∀ f ∈ adcForms v z addr ++ sbcForms v z addr,
    exec f.instr s = .next t → ∃ q r, ({ d := some b } : FlagEffect).Holds s.p q ∧ ({ d := some b } : FlagEffect).Holds t.p r ∧
      exec f.instr { s with p := q } = .next { t with p := r }

/-- R103 to R105: STA, STX, STY in every form write their register at the effective address, once, at a fixed cost. -/
def Obligations.StoresWriteRegisterToMemory : Prop :=
  ∀ (s : State) (z : Byte) (addr : Word),
    (∀ f ∈ staForms z addr, encode f.instr = f.bytes ∧
      exec f.instr s = .next { memWrite (locate f.mode s).ea s.a s with cycleCount := f.cycles }) ∧
    (∀ f ∈ stxForms z addr, encode f.instr = f.bytes ∧
      exec f.instr s = .next { memWrite (locate f.mode s).ea s.x s with cycleCount := f.cycles }) ∧
    (∀ f ∈ styForms z addr, encode f.instr = f.bytes ∧
      exec f.instr s = .next { memWrite (locate f.mode s).ea s.y s with cycleCount := f.cycles })

/-- R110 to R115: the transfers copy one register, set Z and N from it except TXS, and change nothing else. -/
def Obligations.TransfersCopyRegister : Prop :=
  ∀ s : State,
    (encode .tax = [0xAA] ∧ Runs .tax s { s with x := s.a, cycleCount := 2 } (zn s.a)) ∧
    (encode .tay = [0xA8] ∧ Runs .tay s { s with y := s.a, cycleCount := 2 } (zn s.a)) ∧
    (encode .txa = [0x8A] ∧ Runs .txa s { s with a := s.x, cycleCount := 2 } (zn s.x)) ∧
    (encode .tya = [0x98] ∧ Runs .tya s { s with a := s.y, cycleCount := 2 } (zn s.y)) ∧
    (encode .tsx = [0xBA] ∧ Runs .tsx s { s with x := s.sp, cycleCount := 2 } (zn s.sp)) ∧
    (encode .txs = [0x9A] ∧ exec .txs s = .next { s with sp := s.x, cycleCount := 2 })

/-- R122 to R125 with R120, R121: PHA and PHP store at the stack address and then decrement `sp`; PLA and PLP increment `sp` and
then load; PHP forces bits 5, 4 of the pushed copy to 1, PLP those of `p` to 1, 0. -/
def Obligations.StackInstructionsPushAndPull : Prop :=
  ∀ s : State,
    (encode .pha = [0x48] ∧ exec .pha s = .next { memWrite (stackTop s 0) s.a s with sp := s.sp - 1, cycleCount := 3 }) ∧
    (encode .php = [0x08] ∧
      exec .php s = .next { memWrite (stackTop s 0) (s.p ||| 0x30) s with sp := s.sp - 1, cycleCount := 3 }) ∧
    (encode .pla = [0x68] ∧ Runs .pla s { s with a := peek s (stackPull s 1), sp := s.sp + 1, cycleCount := 4 } (zn (peek s (stackPull s 1)))) ∧
    (encode .plp = [0x28] ∧
      exec .plp s = .next { s with p := (peek s (stackPull s 1) &&& 0xEF) ||| 0x20, sp := s.sp + 1, cycleCount := 4 })

/-- R123, R125: PHP followed at once by PLP restores the status register but for bits 5, 4, which become 1, 0; `sp` is as before and
the one stack byte holds the status with both bits set. -/
def Obligations.PhpThenPlpNormalises : Prop :=
  ∀ s : State, s.mem.wf → ∃ t u, exec .php s = .next t ∧ exec .plp t = .next u ∧
    u = { s with mem := u.mem, p := (s.p &&& 0xCF) ||| 0x20, cycleCount := 4 } ∧ peek u (stackTop s 0) = s.p ||| 0x30 ∧
    ∀ b, canon b ≠ stackTop s 0 → peek u b = peek s b

/-- R150, R151: INC and DEC in every form: one read, one write of the byte plus or minus one modulo 256, Z and N from it. -/
def Obligations.IncDecMemoryByOne : Prop :=
  ∀ (s : State) (z : Byte) (addr : Word),
    (∀ f ∈ incForms z addr, encode f.instr = f.bytes ∧ ∀ a r, a = (locate f.mode s).ea → r = BitVec.ofNat 8 ((peek s a).toNat + 1) →
      Runs f.instr s { memWrite a r (memRead a s).2 with cycleCount := f.cycles } (zn r)) ∧
    (∀ f ∈ decForms z addr, encode f.instr = f.bytes ∧ ∀ a r, a = (locate f.mode s).ea → r = BitVec.ofNat 8 ((peek s a).toNat + 255) →
      Runs f.instr s { memWrite a r (memRead a s).2 with cycleCount := f.cycles } (zn r))

/-- R152 to R155: INX, INY, DEX, DEY move their register by one modulo 256 and set Z and N from it. -/
def Obligations.IncDecRegisterByOne : Prop :=
  ∀ (s : State) (r : Byte),
    (r = BitVec.ofNat 8 (s.x.toNat + 1) → encode .inx = [0xE8] ∧ Runs .inx s { s with x := r, cycleCount := 2 } (zn r)) ∧
    (r = BitVec.ofNat 8 (s.y.toNat + 1) → encode .iny = [0xC8] ∧ Runs .iny s { s with y := r, cycleCount := 2 } (zn r)) ∧
    (r = BitVec.ofNat 8 (s.x.toNat + 255) → encode .dex = [0xCA] ∧ Runs .dex s { s with x := r, cycleCount := 2 } (zn r)) ∧
    (r = BitVec.ofNat 8 (s.y.toNat + 255) → encode .dey = [0x88] ∧ Runs .dey s { s with y := r, cycleCount := 2 } (zn r))

/-- What a shift instruction does, accumulator form and memory forms, given its result and outgoing carry as numbers. -/
def Sys2Proof.Claims.Shifts (acc : Instr) (op : Byte) (forms : List StoreForm) (result : Nat → Nat → Nat) (carry : Nat → Bool)
    (s : State) : Prop :=
  (encode acc = [op] ∧ ∀ r, r = BitVec.ofNat 8 (result s.a.toNat (s.p.getLsbD 0).toNat) →
    Runs acc s { s with a := r, cycleCount := 2 } (czn (carry s.a.toNat) r)) ∧
  ∀ f ∈ forms, encode f.instr = f.bytes ∧ ∀ a r, a = (locate f.mode s).ea →
    r = BitVec.ofNat 8 (result (peek s a).toNat (s.p.getLsbD 0).toNat) →
    Runs f.instr s { memWrite a r (memRead a s).2 with cycleCount := f.cycles } (czn (carry (peek s a).toNat) r)

/-- R160 to R163: ASL, LSR, ROL, ROR in every form move the byte by one place; ROL and ROR take the old Carry in, all put the bit
shifted out into Carry and set Z and N. -/
def Obligations.ShiftsMoveOneBit : Prop :=
  ∀ (s : State) (z : Byte) (addr : Word),
    Shifts .aslAcc 0x0A (aslForms z addr) (fun v _ => 2 * v) (fun v => decide (128 ≤ v)) s ∧
    Shifts .lsrAcc 0x4A (lsrForms z addr) (fun v _ => v / 2) (fun v => decide (v % 2 = 1)) s ∧
    Shifts .rolAcc 0x2A (rolForms z addr) (fun v c => 2 * v + c) (fun v => decide (128 ≤ v)) s ∧
    Shifts .rorAcc 0x6A (rorForms z addr) (fun v c => v / 2 + 128 * c) (fun v => decide (v % 2 = 1)) s

/-- R170, R171, R172 with R82: JMP absolute and through a pointer (whose high byte comes from the same page), JSR pushing the
address of its last byte, RTS pulling an address and adding one. -/
def Obligations.JumpsSetProgramCounter : Prop :=
  ∀ (s : State) (addr second ret : Word),
    (encode (.jmpAbs addr) = [0x4C, lo8 addr, hi8 addr] ∧ exec (.jmpAbs addr) s = .next { s with pc := addr, cycleCount := 3 }) ∧
    (second = BitVec.ofNat 16 (addr.toNat / 256 * 256 + (addr.toNat + 1) % 256) →
      encode (.jmpInd addr) = [0x6C, lo8 addr, hi8 addr] ∧
      (canon addr ≠ 0x2002 → canon second ≠ 0x2002 →
        exec (.jmpInd addr) s = .next { s with pc := word (peek s second) (peek s addr), cycleCount := 5 }) ∧
      (canon addr = 0x2002 ∨ canon second = 0x2002 →
        exec (.jmpInd addr) s = .next { statusReadEffects s with pc := word (peek s second) (peek s addr), cycleCount := 5 })) ∧
    (ret = BitVec.ofNat 16 (s.pc.toNat + 65535) →
      encode (.jsr addr) = [0x20, lo8 addr, hi8 addr] ∧
      exec (.jsr addr) s = .next
        { memWrite (stackTop s 1) (lo8 ret) (memWrite (stackTop s 0) (hi8 ret) s) with sp := s.sp - 2, pc := addr, cycleCount := 6 }) ∧
    (encode .rts = [0x60] ∧ exec .rts s = .next
      { s with
        pc := BitVec.ofNat 16 ((peek s (stackPull s 1)).toNat + 256 * (peek s (stackPull s 2)).toNat + 1)
        sp := s.sp + 2
        cycleCount := 6 })

/-- R171, R172: JSR followed at once by RTS restores `pc` to the instruction after the JSR and `sp`, with every register and flag as
before; only the two stack bytes have changed. -/
def Obligations.JsrThenRtsReturns : Prop :=
  ∀ (s : State) (addr : Word), s.mem.wf → ∃ t u, exec (.jsr addr) s = .next t ∧ exec .rts t = .next u ∧
    u = { s with mem := u.mem, cycleCount := 6 } ∧
    ∀ b, canon b ≠ stackTop s 0 → canon b ≠ stackTop s 1 → peek u b = peek s b

/-- R180 to R188 with R85: each branch tests its flag; taken, it goes to the signed offset from the following instruction for 3
cycles, 4 to another page; not taken, it costs 2; nothing else changes. -/
def Obligations.BranchesTestOneFlag : Prop :=
  ∀ (s : State) (off : Byte) (target : Word), target = BitVec.ofInt 16 (s.pc.toNat + off.toInt) →
    ∀ f ∈ branchForms off, encode f.instr = f.bytes ∧
      (f.cond s.p = true → exec f.instr s = .next
        { s with pc := target, cycleCount := if target.toNat / 256 = s.pc.toNat / 256 then 3 else 4 }) ∧
      (f.cond s.p = false → exec f.instr s = .next { s with cycleCount := 2 })

/-- R190 to R197: each flag instruction writes its one flag, NOP none; 2 cycles, nothing else changes. -/
def Obligations.FlagInstructionsWriteOneFlag : Prop :=
  ∀ s : State,
    (encode .clc = [0x18] ∧ Runs .clc s { s with cycleCount := 2 } { c := some false }) ∧
    (encode .cld = [0xD8] ∧ Runs .cld s { s with cycleCount := 2 } { d := some false }) ∧
    (encode .cli = [0x58] ∧ Runs .cli s { s with cycleCount := 2 } { i := some false }) ∧
    (encode .clv = [0xB8] ∧ Runs .clv s { s with cycleCount := 2 } { v := some false }) ∧
    (encode .sec = [0x38] ∧ Runs .sec s { s with cycleCount := 2 } { c := some true }) ∧
    (encode .sed = [0xF8] ∧ Runs .sed s { s with cycleCount := 2 } { d := some true }) ∧
    (encode .sei = [0x78] ∧ Runs .sei s { s with cycleCount := 2 } { i := some true }) ∧
    (encode .nop = [0xEA] ∧ exec .nop s = .next { s with cycleCount := 2 })

/-- R198: BRK (at entry `pc` is its address plus one) pushes `pc` plus one high then low and the status with bits 5, 4 set, sets I and goes
through the vector 0xFFFE. -/
def Obligations.BrkEntersThroughVector : Prop :=
  ∀ (s : State) (ret : Word), ret = s.pc + 1 → encode .brk = [0x00] ∧
    Runs .brk s
      { memWrite (stackTop s 2) (s.p ||| 0x30) (memWrite (stackTop s 1) (lo8 ret) (memWrite (stackTop s 0) (hi8 ret) s)) with
        sp := s.sp - 3
        pc := word (peek s 0xFFFF) (peek s 0xFFFE)
        cycleCount := 7 }
      { i := some true }

/-- R199: RTI pulls the status with bits 5, 4 forced to 1, 0, then `pc` low and high without increment. -/
def Obligations.RtiRestoresStatusAndPc : Prop :=
  ∀ s : State, encode .rti = [0x40] ∧ exec .rti s = .next
    { s with
      p := (peek s (stackPull s 1) &&& 0xEF) ||| 0x20
      pc := word (peek s (stackPull s 3)) (peek s (stackPull s 2))
      sp := s.sp + 3
      cycleCount := 6 }

/-- R90, R200: each of the 27 skip opcodes advances `pc` by its length (`pc` is already past the opcode), takes its cycles, and reads
and changes nothing. -/
def Obligations.SkipOpcodesOnlyAdvance : Prop :=
  ∀ s : State, ∀ f ∈ skipForms, (encode f.instr).head? = some f.opcode ∧ (encode f.instr).length = f.length ∧
    exec f.instr s = .next { s with pc := BitVec.ofNat 16 (s.pc.toNat + (f.length - 1)), cycleCount := f.cycles }

/-! ## Whole-machine rules -/

/-- R7, R24 to R26, R306, R311: no instruction moves the PPU, touches the NMI latch or records a fault. -/
def Obligations.InstructionsCannotMovePpu : Prop :=
  ∀ (i : Instr) (s t : State), exec i s = .next t →
    t.cycle = s.cycle ∧ t.scanline = s.scanline ∧ t.frameCount = s.frameCount ∧ t.nmiPending = s.nmiPending ∧ t.fault = s.fault

/-- R26, R306, R380: no instruction reads the NMI latch, the frame counter or the last cycle count: two states that differ in them
only end in states that differ in the first two only. -/
def Obligations.InstructionsCannotReadLatch : Prop :=
  ∀ (i : Instr) (s t : State) (latch : Bool) (frame cycles : Nat), exec i s = .next t →
    exec i { s with nmiPending := latch, frameCount := frame, cycleCount := cycles } =
      .next { t with nmiPending := latch, frameCount := frame }

/-! ## Frames -/

/-- R16, R55, R86: a read-type instruction leaves `pc`, `sp`, the registers it does not load, the flags I and D, bits 4 and 5, every
byte but the status register, and everything of the PPU unless it reads the status register. -/
def Obligations.ReadInstructionsFrame : Prop :=
  ∀ (s t : State) (v z : Byte) (addr : Word), ∀ f ∈ readForms v z addr, exec f.instr s = .next t →
    (t.pc = s.pc ∧ t.sp = s.sp ∧ t.nmiPending = s.nmiPending ∧ t.fault = s.fault ∧
      t.cycle = s.cycle ∧ t.scanline = s.scanline ∧ t.frameCount = s.frameCount) ∧
    (∀ k, 2 ≤ k → k ≤ 5 → t.p.getLsbD k = s.p.getLsbD k) ∧
    (f ∈ ldxForms v z addr ++ ldyForms v z addr ++ bitForms z addr ++ cmpForms v z addr ++ cpxForms v z addr ++ cpyForms v z addr →
      t.a = s.a) ∧
    (f ∉ ldxForms v z addr → t.x = s.x) ∧ (f ∉ ldyForms v z addr → t.y = s.y) ∧
    (∀ b, canon b ≠ 0x2002 → peek t b = peek s b) ∧
    ((∀ m, f.source = .mem m → canon (locate m s).ea ≠ 0x2002) → SamePpu s t ∧ ∀ b, peek t b = peek s b)

/-- R86, R103 to R105: a store changes the byte at its effective address and nothing else, but for the write toggle when that is PPU
register 5 or 6. -/
def Obligations.StoreInstructionsFrame : Prop :=
  ∀ (s t : State) (z : Byte) (addr : Word), ∀ f ∈ storeForms z addr, exec f.instr s = .next t →
    (t.a = s.a ∧ t.x = s.x ∧ t.y = s.y ∧ t.pc = s.pc ∧ t.sp = s.sp ∧ t.p = s.p ∧ t.nmiPending = s.nmiPending ∧ t.fault = s.fault ∧
      t.cycle = s.cycle ∧ t.scanline = s.scanline ∧ t.frameCount = s.frameCount ∧
      t.suppressVbl = s.suppressVbl ∧ t.suppressNmi = s.suppressNmi) ∧
    ∀ a, a = (locate f.mode s).ea →
      (∀ b, canon b ≠ canon a → peek t b = peek s b) ∧ (canon a ≠ 0x2005 → canon a ≠ 0x2006 → t.w = s.w)

/-- R16, R86, R150, R151, R160 to R163: a read-modify-write instruction on memory leaves the registers, I, D, V, bits 4 and 5, for INC and DEC also
Carry, and every byte but the one at its effective address. -/
def Obligations.ModifyInstructionsFrame : Prop :=
  ∀ (s t : State) (z : Byte) (addr : Word), ∀ f ∈ modifyForms z addr, exec f.instr s = .next t →
    (t.a = s.a ∧ t.x = s.x ∧ t.y = s.y ∧ t.pc = s.pc ∧ t.sp = s.sp ∧ t.nmiPending = s.nmiPending ∧ t.fault = s.fault ∧
      t.cycle = s.cycle ∧ t.scanline = s.scanline ∧ t.frameCount = s.frameCount) ∧
    (∀ k, 2 ≤ k → k ≤ 6 → t.p.getLsbD k = s.p.getLsbD k) ∧
    (f ∈ incForms z addr ++ decForms z addr → t.p.getLsbD 0 = s.p.getLsbD 0) ∧
    ∀ a, a = (locate f.mode s).ea →
      (∀ b, canon b ≠ canon a → peek t b = peek s b) ∧
      ((∀ k : Word, canon a = k → k ≠ 0x2002 ∧ k ≠ 0x2005 ∧ k ≠ 0x2006) → SamePpu s t)

/-- R120, R121: the stack instructions change only the stack bytes they push: PHA and PHP one, JSR two, BRK three, the pulling
instructions none; the general registers (but for PLA's `a`), the PPU, the NMI latch and the fault record stay. -/
def Obligations.StackInstructionsFrame : Prop :=
  ∀ (s t : State) (addr : Word) (i : Instr) (pushes : Nat),
    (i, pushes) ∈ ([(.pha, 1), (.php, 1), (.jsr addr, 2), (.brk, 3), (.pla, 0), (.plp, 0), (.rts, 0), (.rti, 0)] : List (Instr × Nat)) →
    exec i s = .next t →
    (t.x = s.x ∧ t.y = s.y ∧ (i ≠ .pla → t.a = s.a) ∧ t.nmiPending = s.nmiPending ∧ t.fault = s.fault ∧ SamePpu s t) ∧
    (i = .pha ∨ i = .php ∨ i = .jsr addr ∨ i = .rts → t.p = s.p) ∧
    ∀ b, (∀ k < pushes, canon b ≠ stackTop s k) → peek t b = peek s b

/-- R73, R74, R180, R200: the instructions that make no data access (transfers, register increments, accumulator shifts, flag
instructions, NOP, JMP, branches, skip opcodes) leave every byte, the PPU, the NMI latch and the fault record. -/
def Obligations.RegisterInstructionsFrame : Prop :=
  ∀ (s t : State) (off : Byte) (addr : Word) (i : Instr),
    i ∈ registerForms addr ++ (branchForms off).map BranchForm.instr ++ skipForms.map SkipForm.instr → exec i s = .next t →
    SamePpu s t ∧ t.nmiPending = s.nmiPending ∧ t.fault = s.fault ∧ (∀ b, peek t b = peek s b) ∧
    (i ≠ .txs → t.sp = s.sp) ∧
    (i ∉ ([.txa, .tya, .aslAcc, .lsrAcc, .rolAcc, .rorAcc] : List Instr) → t.a = s.a) ∧
    (i ∉ ([.tax, .tsx, .inx, .dex] : List Instr) → t.x = s.x) ∧ (i ∉ ([.tay, .iny, .dey] : List Instr) → t.y = s.y) ∧
    t.p.getLsbD 4 = s.p.getLsbD 4 ∧ t.p.getLsbD 5 = s.p.getLsbD 5
end

