-- ==== Sys2Proof/Laws/Bits.lean ====
section
/-! SUPPORT. Laws of the bit fields: a word is its two bytes. -/

namespace Sys2Proof.Laws

open Sys2Proof.Machine

theorem word_toNat (hi lo : Byte) : (word hi lo).toNat = hi.toNat * 256 + lo.toNat := by
  have h := lo.isLt
  simp only [word, BitVec.toNat_append]
  rw [← Nat.shiftLeft_add_eq_or_of_lt h, Nat.shiftLeft_eq]

theorem hi8_toNat (w : Word) : (hi8 w).toNat = w.toNat / 256 := by
  have h := w.isLt
  simp only [hi8, BitVec.toNat_setWidth, BitVec.toNat_ushiftRight, Nat.shiftRight_eq_div_pow]
  omega

theorem lo8_toNat (w : Word) : (lo8 w).toNat = w.toNat % 256 := by
  simp [lo8]

theorem zext16_toNat (b : Byte) : (zext16 b).toNat = b.toNat := by
  have h := b.isLt
  simp only [zext16, BitVec.toNat_setWidth]
  omega

@[simp] theorem lo8_word (hi lo : Byte) : lo8 (word hi lo) = lo := by
  have h := lo.isLt
  rw [← BitVec.toNat_inj, lo8_toNat, word_toNat]
  omega

@[simp] theorem hi8_word (hi lo : Byte) : hi8 (word hi lo) = hi := by
  have h := lo.isLt
  rw [← BitVec.toNat_inj, hi8_toNat, word_toNat]
  omega

@[simp] theorem word_hi8_lo8 (w : Word) : word (hi8 w) (lo8 w) = w := by
  rw [← BitVec.toNat_inj, word_toNat, hi8_toNat, lo8_toNat]
  omega

/-- `page` compares as the high byte of the number. -/
theorem pageCrossed_iff (a b : Word) : pageCrossed a b = true ↔ a.toNat / 256 ≠ b.toNat / 256 := by
  simp [pageCrossed, ← hi8_toNat, BitVec.toNat_inj]

end Sys2Proof.Laws
end

