-- ==== Sys2Proof/Laws/Memory.lean ====
section
/-! SUPPORT. Laws of the byte array: reading what was written, leaving the rest alone, and keeping the canonical form. -/

namespace Sys2Proof.Machine

/-- A cell below every listed one reads as unlisted. -/
theorem Memory.read_of_below {m : Memory} {k : Nat} (h : ∀ c ∈ m, k < c.1) : m.read k = Memory.unlisted k := by
  induction m with
  | nil => rfl
  | cons c m ih =>
    obtain ⟨j, b⟩ := c
    have hj : k < j := h (j, b) (by simp)
    have : j ≠ k := by omega
    simp only [Memory.read, if_neg this]
    exact ih (fun c hc => h c (List.mem_cons_of_mem _ hc))

/-- Writing one cell leaves every other cell as it was. -/
theorem Memory.read_write_other (m : Memory) {j k : Nat} (v : Byte) (h : j ≠ k) : (m.write k v).read j = m.read j := by
  induction m with
  | nil =>
    simp only [Memory.write]
    split
    · rfl
    · simp [Memory.read, Ne.symm h]
  | cons c m ih =>
    obtain ⟨i, b⟩ := c
    simp only [Memory.write]
    by_cases hlt : k < i
    · by_cases hv : v = Memory.unlisted k <;> simp [hlt, hv, Memory.read, Ne.symm h]
    · by_cases he : k = i
      · subst he
        by_cases hv : v = Memory.unlisted k <;> simp [hv, Memory.read, Ne.symm h]
      · simp only [if_neg hlt, if_neg he, Memory.read, ih]

/-- In canonical form, a cell reads as the byte last written to it. -/
theorem Memory.read_write_same {m : Memory} (hm : m.Pairwise (fun c d => c.1 < d.1)) (k : Nat) (v : Byte) :
    (m.write k v).read k = v := by
  induction m with
  | nil =>
    simp only [Memory.write]
    split
    · next h => exact h.symm
    · simp [Memory.read]
  | cons c m ih =>
    obtain ⟨i, b⟩ := c
    rw [List.pairwise_cons] at hm
    simp only [Memory.write]
    by_cases hlt : k < i
    · by_cases hv : v = Memory.unlisted k
      · rw [if_pos hlt, if_pos hv, hv]
        refine Memory.read_of_below (fun c hc => ?_)
        rcases List.mem_cons.1 hc with rfl | hc
        · exact hlt
        · exact Nat.lt_trans hlt (hm.1 c hc)
      · simp [hlt, hv, Memory.read]
    · by_cases he : k = i
      · subst he
        by_cases hv : v = Memory.unlisted k
        · rw [if_neg hlt, if_pos rfl, if_pos hv, hv]
          exact Memory.read_of_below hm.1
        · simp [hv, Memory.read]
      · have : i ≠ k := Ne.symm he
        simp only [if_neg hlt, if_neg he, Memory.read, if_neg this]
        exact ih hm.2

/-- Every cell of a written byte array is the written one or was there before. -/
theorem Memory.mem_write {m : Memory} {k : Nat} {v : Byte} {c : Host.Cell} (h : c ∈ m.write k v) :
    (c = (k, v) ∧ v ≠ Memory.unlisted k) ∨ c ∈ m := by
  induction m with
  | nil =>
    simp only [Memory.write] at h
    split at h
    · simp at h
    · next hv => exact .inl ⟨by simpa using h, hv⟩
  | cons d m ih =>
    obtain ⟨i, b⟩ := d
    simp only [Memory.write] at h
    split at h
    · split at h
      · exact .inr h
      · next hv =>
        rcases List.mem_cons.1 h with rfl | h
        · exact .inl ⟨rfl, hv⟩
        · exact .inr h
    · split at h
      · split at h
        · exact .inr (List.mem_cons_of_mem _ h)
        · next hv =>
          rcases List.mem_cons.1 h with rfl | h
          · exact .inl ⟨rfl, hv⟩
          · exact .inr (List.mem_cons_of_mem _ h)
      · rcases List.mem_cons.1 h with rfl | h
        · exact .inr (by simp)
        · rcases ih h with h | h
          · exact .inl h
          · exact .inr (List.mem_cons_of_mem _ h)

/-- A write keeps the cells rising. -/
theorem Memory.rising_write {m : Memory} (hm : m.Pairwise (fun c d => c.1 < d.1)) (k : Nat) (v : Byte) :
    (m.write k v).Pairwise (fun c d => c.1 < d.1) := by
  induction m with
  | nil =>
    simp only [Memory.write]
    split <;> simp
  | cons d m ih =>
    obtain ⟨i, b⟩ := d
    have hm' := hm
    rw [List.pairwise_cons] at hm'
    simp only [Memory.write]
    split
    · next hlt =>
      split
      · exact hm
      · refine List.pairwise_cons.2 ⟨fun c hc => ?_, hm⟩
        rcases List.mem_cons.1 hc with rfl | hc
        · exact hlt
        · exact Nat.lt_trans hlt (hm'.1 c hc)
    · next hlt =>
      split
      · next he =>
        subst he
        split
        · exact hm'.2
        · exact List.pairwise_cons.2 ⟨hm'.1, hm'.2⟩
      · next he =>
        refine List.pairwise_cons.2 ⟨fun c hc => ?_, ih hm'.2⟩
        rcases Memory.mem_write hc with ⟨rfl, -⟩ | hc
        · simp only; omega
        · exact hm'.1 c hc

/-- A write to a cell that exists keeps the canonical form. -/
theorem Memory.wf_write {m : Memory} (hm : m.wf) {k : Nat} (hk : isCell k = true) (v : Byte) : (m.write k v).wf := by
  refine ⟨Memory.rising_write hm.1 k v, fun c hc => ?_⟩
  rcases Memory.mem_write hc with ⟨rfl, hv⟩ | hc
  · exact ⟨hk, hv⟩
  · exact hm.2 c hc

/-- Reading any cell of a written array in canonical form. -/
theorem Memory.read_write {m : Memory} (hm : m.wf) (j k : Nat) (v : Byte) :
    (m.write k v).read j = if j = k then v else m.read j := by
  by_cases h : j = k
  · subst h; simp [Memory.read_write_same hm.1]
  · simp [h, Memory.read_write_other m v h]

/-- The byte array of the reset state is canonical. -/
theorem reset_mem_wf : State.reset.mem.wf := by decide

end Sys2Proof.Machine
end

