-- ==== Sys2Proof/Laws/State.lean ====
section
/-! SUPPORT. What each named update of the state does to each field, true by definition. -/

namespace Sys2Proof.Machine

@[simp] theorem State.withA_a (v : Byte) (s : State) : (s.withA v).a = v := rfl
@[simp] theorem State.withA_x (v : Byte) (s : State) : (s.withA v).x = s.x := rfl
@[simp] theorem State.withA_y (v : Byte) (s : State) : (s.withA v).y = s.y := rfl
@[simp] theorem State.withA_pc (v : Byte) (s : State) : (s.withA v).pc = s.pc := rfl
@[simp] theorem State.withA_sp (v : Byte) (s : State) : (s.withA v).sp = s.sp := rfl
@[simp] theorem State.withA_p (v : Byte) (s : State) : (s.withA v).p = s.p := rfl
@[simp] theorem State.withA_cycleCount (v : Byte) (s : State) : (s.withA v).cycleCount = s.cycleCount := rfl
@[simp] theorem State.withA_nmiPending (v : Byte) (s : State) : (s.withA v).nmiPending = s.nmiPending := rfl
@[simp] theorem State.withA_fault (v : Byte) (s : State) : (s.withA v).fault = s.fault := rfl
@[simp] theorem State.withA_mem (v : Byte) (s : State) : (s.withA v).mem = s.mem := rfl
@[simp] theorem State.withA_cycle (v : Byte) (s : State) : (s.withA v).cycle = s.cycle := rfl
@[simp] theorem State.withA_scanline (v : Byte) (s : State) : (s.withA v).scanline = s.scanline := rfl
@[simp] theorem State.withA_frameCount (v : Byte) (s : State) : (s.withA v).frameCount = s.frameCount := rfl
@[simp] theorem State.withA_w (v : Byte) (s : State) : (s.withA v).w = s.w := rfl
@[simp] theorem State.withA_suppressVbl (v : Byte) (s : State) : (s.withA v).suppressVbl = s.suppressVbl := rfl
@[simp] theorem State.withA_suppressNmi (v : Byte) (s : State) : (s.withA v).suppressNmi = s.suppressNmi := rfl

@[simp] theorem State.withX_a (v : Byte) (s : State) : (s.withX v).a = s.a := rfl
@[simp] theorem State.withX_x (v : Byte) (s : State) : (s.withX v).x = v := rfl
@[simp] theorem State.withX_y (v : Byte) (s : State) : (s.withX v).y = s.y := rfl
@[simp] theorem State.withX_pc (v : Byte) (s : State) : (s.withX v).pc = s.pc := rfl
@[simp] theorem State.withX_sp (v : Byte) (s : State) : (s.withX v).sp = s.sp := rfl
@[simp] theorem State.withX_p (v : Byte) (s : State) : (s.withX v).p = s.p := rfl
@[simp] theorem State.withX_cycleCount (v : Byte) (s : State) : (s.withX v).cycleCount = s.cycleCount := rfl
@[simp] theorem State.withX_nmiPending (v : Byte) (s : State) : (s.withX v).nmiPending = s.nmiPending := rfl
@[simp] theorem State.withX_fault (v : Byte) (s : State) : (s.withX v).fault = s.fault := rfl
@[simp] theorem State.withX_mem (v : Byte) (s : State) : (s.withX v).mem = s.mem := rfl
@[simp] theorem State.withX_cycle (v : Byte) (s : State) : (s.withX v).cycle = s.cycle := rfl
@[simp] theorem State.withX_scanline (v : Byte) (s : State) : (s.withX v).scanline = s.scanline := rfl
@[simp] theorem State.withX_frameCount (v : Byte) (s : State) : (s.withX v).frameCount = s.frameCount := rfl
@[simp] theorem State.withX_w (v : Byte) (s : State) : (s.withX v).w = s.w := rfl
@[simp] theorem State.withX_suppressVbl (v : Byte) (s : State) : (s.withX v).suppressVbl = s.suppressVbl := rfl
@[simp] theorem State.withX_suppressNmi (v : Byte) (s : State) : (s.withX v).suppressNmi = s.suppressNmi := rfl

@[simp] theorem State.withY_a (v : Byte) (s : State) : (s.withY v).a = s.a := rfl
@[simp] theorem State.withY_x (v : Byte) (s : State) : (s.withY v).x = s.x := rfl
@[simp] theorem State.withY_y (v : Byte) (s : State) : (s.withY v).y = v := rfl
@[simp] theorem State.withY_pc (v : Byte) (s : State) : (s.withY v).pc = s.pc := rfl
@[simp] theorem State.withY_sp (v : Byte) (s : State) : (s.withY v).sp = s.sp := rfl
@[simp] theorem State.withY_p (v : Byte) (s : State) : (s.withY v).p = s.p := rfl
@[simp] theorem State.withY_cycleCount (v : Byte) (s : State) : (s.withY v).cycleCount = s.cycleCount := rfl
@[simp] theorem State.withY_nmiPending (v : Byte) (s : State) : (s.withY v).nmiPending = s.nmiPending := rfl
@[simp] theorem State.withY_fault (v : Byte) (s : State) : (s.withY v).fault = s.fault := rfl
@[simp] theorem State.withY_mem (v : Byte) (s : State) : (s.withY v).mem = s.mem := rfl
@[simp] theorem State.withY_cycle (v : Byte) (s : State) : (s.withY v).cycle = s.cycle := rfl
@[simp] theorem State.withY_scanline (v : Byte) (s : State) : (s.withY v).scanline = s.scanline := rfl
@[simp] theorem State.withY_frameCount (v : Byte) (s : State) : (s.withY v).frameCount = s.frameCount := rfl
@[simp] theorem State.withY_w (v : Byte) (s : State) : (s.withY v).w = s.w := rfl
@[simp] theorem State.withY_suppressVbl (v : Byte) (s : State) : (s.withY v).suppressVbl = s.suppressVbl := rfl
@[simp] theorem State.withY_suppressNmi (v : Byte) (s : State) : (s.withY v).suppressNmi = s.suppressNmi := rfl

@[simp] theorem State.withPc_a (v : Word) (s : State) : (s.withPc v).a = s.a := rfl
@[simp] theorem State.withPc_x (v : Word) (s : State) : (s.withPc v).x = s.x := rfl
@[simp] theorem State.withPc_y (v : Word) (s : State) : (s.withPc v).y = s.y := rfl
@[simp] theorem State.withPc_pc (v : Word) (s : State) : (s.withPc v).pc = v := rfl
@[simp] theorem State.withPc_sp (v : Word) (s : State) : (s.withPc v).sp = s.sp := rfl
@[simp] theorem State.withPc_p (v : Word) (s : State) : (s.withPc v).p = s.p := rfl
@[simp] theorem State.withPc_cycleCount (v : Word) (s : State) : (s.withPc v).cycleCount = s.cycleCount := rfl
@[simp] theorem State.withPc_nmiPending (v : Word) (s : State) : (s.withPc v).nmiPending = s.nmiPending := rfl
@[simp] theorem State.withPc_fault (v : Word) (s : State) : (s.withPc v).fault = s.fault := rfl
@[simp] theorem State.withPc_mem (v : Word) (s : State) : (s.withPc v).mem = s.mem := rfl
@[simp] theorem State.withPc_cycle (v : Word) (s : State) : (s.withPc v).cycle = s.cycle := rfl
@[simp] theorem State.withPc_scanline (v : Word) (s : State) : (s.withPc v).scanline = s.scanline := rfl
@[simp] theorem State.withPc_frameCount (v : Word) (s : State) : (s.withPc v).frameCount = s.frameCount := rfl
@[simp] theorem State.withPc_w (v : Word) (s : State) : (s.withPc v).w = s.w := rfl
@[simp] theorem State.withPc_suppressVbl (v : Word) (s : State) : (s.withPc v).suppressVbl = s.suppressVbl := rfl
@[simp] theorem State.withPc_suppressNmi (v : Word) (s : State) : (s.withPc v).suppressNmi = s.suppressNmi := rfl

@[simp] theorem State.withSp_a (v : Byte) (s : State) : (s.withSp v).a = s.a := rfl
@[simp] theorem State.withSp_x (v : Byte) (s : State) : (s.withSp v).x = s.x := rfl
@[simp] theorem State.withSp_y (v : Byte) (s : State) : (s.withSp v).y = s.y := rfl
@[simp] theorem State.withSp_pc (v : Byte) (s : State) : (s.withSp v).pc = s.pc := rfl
@[simp] theorem State.withSp_sp (v : Byte) (s : State) : (s.withSp v).sp = v := rfl
@[simp] theorem State.withSp_p (v : Byte) (s : State) : (s.withSp v).p = s.p := rfl
@[simp] theorem State.withSp_cycleCount (v : Byte) (s : State) : (s.withSp v).cycleCount = s.cycleCount := rfl
@[simp] theorem State.withSp_nmiPending (v : Byte) (s : State) : (s.withSp v).nmiPending = s.nmiPending := rfl
@[simp] theorem State.withSp_fault (v : Byte) (s : State) : (s.withSp v).fault = s.fault := rfl
@[simp] theorem State.withSp_mem (v : Byte) (s : State) : (s.withSp v).mem = s.mem := rfl
@[simp] theorem State.withSp_cycle (v : Byte) (s : State) : (s.withSp v).cycle = s.cycle := rfl
@[simp] theorem State.withSp_scanline (v : Byte) (s : State) : (s.withSp v).scanline = s.scanline := rfl
@[simp] theorem State.withSp_frameCount (v : Byte) (s : State) : (s.withSp v).frameCount = s.frameCount := rfl
@[simp] theorem State.withSp_w (v : Byte) (s : State) : (s.withSp v).w = s.w := rfl
@[simp] theorem State.withSp_suppressVbl (v : Byte) (s : State) : (s.withSp v).suppressVbl = s.suppressVbl := rfl
@[simp] theorem State.withSp_suppressNmi (v : Byte) (s : State) : (s.withSp v).suppressNmi = s.suppressNmi := rfl

@[simp] theorem State.withP_a (v : Byte) (s : State) : (s.withP v).a = s.a := rfl
@[simp] theorem State.withP_x (v : Byte) (s : State) : (s.withP v).x = s.x := rfl
@[simp] theorem State.withP_y (v : Byte) (s : State) : (s.withP v).y = s.y := rfl
@[simp] theorem State.withP_pc (v : Byte) (s : State) : (s.withP v).pc = s.pc := rfl
@[simp] theorem State.withP_sp (v : Byte) (s : State) : (s.withP v).sp = s.sp := rfl
@[simp] theorem State.withP_p (v : Byte) (s : State) : (s.withP v).p = v := rfl
@[simp] theorem State.withP_cycleCount (v : Byte) (s : State) : (s.withP v).cycleCount = s.cycleCount := rfl
@[simp] theorem State.withP_nmiPending (v : Byte) (s : State) : (s.withP v).nmiPending = s.nmiPending := rfl
@[simp] theorem State.withP_fault (v : Byte) (s : State) : (s.withP v).fault = s.fault := rfl
@[simp] theorem State.withP_mem (v : Byte) (s : State) : (s.withP v).mem = s.mem := rfl
@[simp] theorem State.withP_cycle (v : Byte) (s : State) : (s.withP v).cycle = s.cycle := rfl
@[simp] theorem State.withP_scanline (v : Byte) (s : State) : (s.withP v).scanline = s.scanline := rfl
@[simp] theorem State.withP_frameCount (v : Byte) (s : State) : (s.withP v).frameCount = s.frameCount := rfl
@[simp] theorem State.withP_w (v : Byte) (s : State) : (s.withP v).w = s.w := rfl
@[simp] theorem State.withP_suppressVbl (v : Byte) (s : State) : (s.withP v).suppressVbl = s.suppressVbl := rfl
@[simp] theorem State.withP_suppressNmi (v : Byte) (s : State) : (s.withP v).suppressNmi = s.suppressNmi := rfl

@[simp] theorem State.withCycles_a (v : Nat) (s : State) : (s.withCycles v).a = s.a := rfl
@[simp] theorem State.withCycles_x (v : Nat) (s : State) : (s.withCycles v).x = s.x := rfl
@[simp] theorem State.withCycles_y (v : Nat) (s : State) : (s.withCycles v).y = s.y := rfl
@[simp] theorem State.withCycles_pc (v : Nat) (s : State) : (s.withCycles v).pc = s.pc := rfl
@[simp] theorem State.withCycles_sp (v : Nat) (s : State) : (s.withCycles v).sp = s.sp := rfl
@[simp] theorem State.withCycles_p (v : Nat) (s : State) : (s.withCycles v).p = s.p := rfl
@[simp] theorem State.withCycles_cycleCount (v : Nat) (s : State) : (s.withCycles v).cycleCount = v := rfl
@[simp] theorem State.withCycles_nmiPending (v : Nat) (s : State) : (s.withCycles v).nmiPending = s.nmiPending := rfl
@[simp] theorem State.withCycles_fault (v : Nat) (s : State) : (s.withCycles v).fault = s.fault := rfl
@[simp] theorem State.withCycles_mem (v : Nat) (s : State) : (s.withCycles v).mem = s.mem := rfl
@[simp] theorem State.withCycles_cycle (v : Nat) (s : State) : (s.withCycles v).cycle = s.cycle := rfl
@[simp] theorem State.withCycles_scanline (v : Nat) (s : State) : (s.withCycles v).scanline = s.scanline := rfl
@[simp] theorem State.withCycles_frameCount (v : Nat) (s : State) : (s.withCycles v).frameCount = s.frameCount := rfl
@[simp] theorem State.withCycles_w (v : Nat) (s : State) : (s.withCycles v).w = s.w := rfl
@[simp] theorem State.withCycles_suppressVbl (v : Nat) (s : State) : (s.withCycles v).suppressVbl = s.suppressVbl := rfl
@[simp] theorem State.withCycles_suppressNmi (v : Nat) (s : State) : (s.withCycles v).suppressNmi = s.suppressNmi := rfl

@[simp] theorem State.withMem_a (v : Memory) (s : State) : (s.withMem v).a = s.a := rfl
@[simp] theorem State.withMem_x (v : Memory) (s : State) : (s.withMem v).x = s.x := rfl
@[simp] theorem State.withMem_y (v : Memory) (s : State) : (s.withMem v).y = s.y := rfl
@[simp] theorem State.withMem_pc (v : Memory) (s : State) : (s.withMem v).pc = s.pc := rfl
@[simp] theorem State.withMem_sp (v : Memory) (s : State) : (s.withMem v).sp = s.sp := rfl
@[simp] theorem State.withMem_p (v : Memory) (s : State) : (s.withMem v).p = s.p := rfl
@[simp] theorem State.withMem_cycleCount (v : Memory) (s : State) : (s.withMem v).cycleCount = s.cycleCount := rfl
@[simp] theorem State.withMem_nmiPending (v : Memory) (s : State) : (s.withMem v).nmiPending = s.nmiPending := rfl
@[simp] theorem State.withMem_fault (v : Memory) (s : State) : (s.withMem v).fault = s.fault := rfl
@[simp] theorem State.withMem_mem (v : Memory) (s : State) : (s.withMem v).mem = v := rfl
@[simp] theorem State.withMem_cycle (v : Memory) (s : State) : (s.withMem v).cycle = s.cycle := rfl
@[simp] theorem State.withMem_scanline (v : Memory) (s : State) : (s.withMem v).scanline = s.scanline := rfl
@[simp] theorem State.withMem_frameCount (v : Memory) (s : State) : (s.withMem v).frameCount = s.frameCount := rfl
@[simp] theorem State.withMem_w (v : Memory) (s : State) : (s.withMem v).w = s.w := rfl
@[simp] theorem State.withMem_suppressVbl (v : Memory) (s : State) : (s.withMem v).suppressVbl = s.suppressVbl := rfl
@[simp] theorem State.withMem_suppressNmi (v : Memory) (s : State) : (s.withMem v).suppressNmi = s.suppressNmi := rfl

@[simp] theorem State.withFault_a (v : Fault) (s : State) : (s.withFault v).a = s.a := rfl
@[simp] theorem State.withFault_x (v : Fault) (s : State) : (s.withFault v).x = s.x := rfl
@[simp] theorem State.withFault_y (v : Fault) (s : State) : (s.withFault v).y = s.y := rfl
@[simp] theorem State.withFault_pc (v : Fault) (s : State) : (s.withFault v).pc = s.pc := rfl
@[simp] theorem State.withFault_sp (v : Fault) (s : State) : (s.withFault v).sp = s.sp := rfl
@[simp] theorem State.withFault_p (v : Fault) (s : State) : (s.withFault v).p = s.p := rfl
@[simp] theorem State.withFault_cycleCount (v : Fault) (s : State) : (s.withFault v).cycleCount = s.cycleCount := rfl
@[simp] theorem State.withFault_nmiPending (v : Fault) (s : State) : (s.withFault v).nmiPending = s.nmiPending := rfl
@[simp] theorem State.withFault_fault (v : Fault) (s : State) : (s.withFault v).fault = some v := rfl
@[simp] theorem State.withFault_mem (v : Fault) (s : State) : (s.withFault v).mem = s.mem := rfl
@[simp] theorem State.withFault_cycle (v : Fault) (s : State) : (s.withFault v).cycle = s.cycle := rfl
@[simp] theorem State.withFault_scanline (v : Fault) (s : State) : (s.withFault v).scanline = s.scanline := rfl
@[simp] theorem State.withFault_frameCount (v : Fault) (s : State) : (s.withFault v).frameCount = s.frameCount := rfl
@[simp] theorem State.withFault_w (v : Fault) (s : State) : (s.withFault v).w = s.w := rfl
@[simp] theorem State.withFault_suppressVbl (v : Fault) (s : State) : (s.withFault v).suppressVbl = s.suppressVbl := rfl
@[simp] theorem State.withFault_suppressNmi (v : Fault) (s : State) : (s.withFault v).suppressNmi = s.suppressNmi := rfl

/-- The fault state shuts the effect out (R303). -/
@[simp] theorem unlessFaulted_of_some {s : State} {r : Fault} (h : s.fault = some r) (f : State → State) :
    unlessFaulted f s = s := if_pos (by rw [h]; rfl)

/-- Without a fault the effect happens. -/
@[simp] theorem unlessFaulted_of_none {s : State} (h : s.fault = none) (f : State → State) : unlessFaulted f s = f s :=
  if_neg (by rw [h]; decide)

end Sys2Proof.Machine
end

