-- ==== Sys2Proof/Laws/Params.lean ====
section
/-! SUPPORT. The value of every parameter as a simp lemma, so that no proof unfolds the configuration, and what the definitions that
read a parameter come to with it. -/

namespace Sys2Proof.Machine

@[simp] theorem config_resetP : config.resetP = 0x34 := rfl
@[simp] theorem config_memInit : config.memInit = [] := rfl
@[simp] theorem config_ppuInit : config.ppuInit = (0, 241, 0) := rfl
@[simp] theorem config_stackPage : config.stackPage = 0x01 := rfl
@[simp] theorem config_ppuPerCpu : config.ppuPerCpu = 3 := rfl
@[simp] theorem config_ppuCyclesPerLine : config.ppuCyclesPerLine = 341 := rfl
@[simp] theorem config_ppuLines : config.ppuLines = 262 := rfl
@[simp] theorem config_vblSetAt : config.vblSetAt = (240, 1) := rfl
@[simp] theorem config_vblClearAt : config.vblClearAt = (260, 1) := rfl
@[simp] theorem config_sprClearAt : config.sprClearAt = (-1, 1) := rfl
@[simp] theorem config_scrollLatchAt : config.scrollLatchAt = (-1, 304) := rfl
@[simp] theorem config_ramSize : config.ramSize = 0x0800 := rfl
@[simp] theorem config_ramMirrorEnd : config.ramMirrorEnd = 0x2000 := rfl
@[simp] theorem config_ppuRegCount : config.ppuRegCount = 8 := rfl
@[simp] theorem config_ppuRegBase : config.ppuRegBase = 0x2000 := rfl
@[simp] theorem config_ppuRegEnd : config.ppuRegEnd = 0x4000 := rfl
@[simp] theorem config_ioBase : config.ioBase = 0x4000 := rfl
@[simp] theorem config_ioEnd : config.ioEnd = 0x4020 := rfl
@[simp] theorem config_prgBase : config.prgBase = 0x8000 := rfl
@[simp] theorem config_prgMirror : config.prgMirror = 0xC000 := rfl
@[simp] theorem config_prgSize : config.prgSize = 0x4000 := rfl
@[simp] theorem config_vecNmi : config.vecNmi = 0xFFFA := rfl
@[simp] theorem config_vecReset : config.vecReset = 0xFFFC := rfl
@[simp] theorem config_vecIrqBrk : config.vecIrqBrk = 0xFFFE := rfl
@[simp] theorem config_resetSp : config.resetSp = 0xFD := rfl
@[simp] theorem config_confPc : config.confPc = 0xC000 := rfl
@[simp] theorem config_confP : config.confP = 0x24 := rfl
@[simp] theorem config_unknownOpcodePolicy : config.unknownOpcodePolicy = .abort := rfl
@[simp] theorem config_frameCountWidth : config.frameCountWidth = none := rfl

@[simp] theorem vblRaceAt_eq : vblRaceAt = (240, 0) := rfl
@[simp] theorem lineAfterLast_eq : lineAfterLast = 261 := rfl
@[simp] theorem statusAddr_eq : statusAddr = 0x2002 := rfl
@[simp] theorem statusCell_eq : statusCell = 0x2002 := rfl
@[simp] theorem ppuCell_eq (i : Nat) : ppuCell i = 0x2000 + i := rfl
@[simp] theorem nextFrame_eq (n : Nat) : nextFrame n = n + 1 := rfl

/-- The policy for unknown opcodes is abort: the fault is recorded (R301). -/
@[simp] theorem unknownOpcode_abort (op : Byte) (s : State) :
    unknownOpcode config.unknownOpcodePolicy op s = s.withFault (.unknownOpcode op) := rfl

/-- The configuration is well formed (R8). -/
theorem wellFormedParams_config : wellFormedParams config = true := by decide +kernel

/-- The router over numbers (R41). -/
theorem regionOf_eq (addr : Word) : regionOf addr =
    if addr.toNat < 0x2000 then .ram else if addr.toNat < 0x4000 then .ppuRegisters else if addr.toNat < 0x4020 then .io
    else if addr.toNat < 0x8000 then .cartLow else if addr.toNat < 0xC000 then .prg else .prgMirror := rfl

/-- The addresses MEM_INIT covers, over numbers (R32). -/
theorem hasMemInit_iff (addr : Word) :
    hasMemInit addr = true ↔ addr.toNat < 0x2000 ∨ 0x4000 ≤ addr.toNat ∧ addr.toNat < 0x8000 := by
  unfold hasMemInit
  rw [regionOf_eq]
  by_cases h1 : addr.toNat < 0x2000
  · simp [h1]
  by_cases h2 : addr.toNat < 0x4000
  · simp [h1, h2]
  by_cases h3 : addr.toNat < 0x4020
  · simp [h1, h2, h3]; omega
  by_cases h4 : addr.toNat < 0x8000
  · simp [h1, h2, h3, h4]; omega
  · by_cases h5 : addr.toNat < 0xC000 <;> simp [h1, h2, h3, h4, h5]

/-- A loaded program ROM (R51). -/
theorem loadRom_eq {prg : List Byte} (h : prg.length = 16384) {s : State} (hf : s.fault = none) :
    loadRom prg s = .next (s.withMem (belowRom s.mem ++ romCells 0x8000 prg)) := by
  simp [loadRom, hf, wellFormedImage, h]

/-- A faulted machine loads no program (R303). -/
theorem loadRom_of_fault {s : State} {r : Fault} (hf : s.fault = some r) (prg : List Byte) : loadRom prg s = .fault r := by
  simp [loadRom, hf]

/-- The reset of a machine that is not in the fault state (R360). -/
theorem cpuReset_eq {s : State} (hf : s.fault = none) (par : Config.OpenParams) : cpuReset par s = resetRegisters par s :=
  unlessFaulted_of_none hf _

/-- The cells that exist, over numbers (R23). -/
theorem isCell_eq (k : Nat) : isCell k = (k < 0x0800 || (0x2000 ≤ k && k < 0x2008) || (0x4000 ≤ k && k < 0xC000)) := rfl

end Sys2Proof.Machine
end

