-- ==== Sys2Proof/Laws/Bus.lean ====
section
/-! SUPPORT. Laws of the router and the two bus operations: which cell an address reaches, what a read and a write can do. -/

namespace Sys2Proof.Machine

open Sys2Proof.Laws

/-- A mask of low ones is a remainder. -/
theorem and_lowMask (n k : Nat) : n &&& (2 ^ k - 1) = n % 2 ^ k := Nat.and_two_pow_sub_one_eq_mod n k

/-- The canonical address as a number (R42). -/
theorem cellOf_eq (addr : Word) : cellOf addr =
    if addr.toNat < 0x2000 then addr.toNat % 0x800
    else if addr.toNat < 0x4000 then 0x2000 + addr.toNat % 8
    else if addr.toNat < 0x8000 then addr.toNat
    else 0x8000 + addr.toNat % 0x4000 := by
  have ram : (addr &&& (config.ramSize - 1)).toNat = addr.toNat % 0x800 := (BitVec.toNat_and ..).trans (and_lowMask addr.toNat 11)
  have reg : (config.ppuRegBase ||| (addr &&& (config.ppuRegCount - 1))).toNat = 0x2000 + addr.toNat % 8 := by
    rw [BitVec.toNat_or, BitVec.toNat_and]
    have e : addr.toNat &&& 7 = addr.toNat % 8 := and_lowMask addr.toNat 3
    refine (congrArg (8192 ||| ·) e).trans ?_
    exact (Nat.two_pow_add_eq_or_of_lt (i := 13) (b := addr.toNat % 8) (by omega) 1).symm
  have prg : (config.prgBase ||| (addr &&& (config.prgSize - 1))).toNat = 0x8000 + addr.toNat % 0x4000 := by
    rw [BitVec.toNat_or, BitVec.toNat_and]
    have e : addr.toNat &&& 16383 = addr.toNat % 16384 := and_lowMask addr.toNat 14
    refine (congrArg (32768 ||| ·) e).trans ?_
    exact (Nat.two_pow_add_eq_or_of_lt (i := 15) (b := addr.toNat % 16384) (by omega) 1).symm
  unfold cellOf canon
  rw [regionOf_eq]
  by_cases h1 : addr.toNat < 0x2000
  · simpa only [if_pos h1] using ram
  by_cases h2 : addr.toNat < 0x4000
  · simpa only [if_neg h1, if_pos h2] using reg
  by_cases h3 : addr.toNat < 0x4020
  · have h4 : addr.toNat < 0x8000 := by omega
    simp only [if_neg h1, if_neg h2, if_pos h3, if_pos h4]
  by_cases h4 : addr.toNat < 0x8000
  · simp only [if_neg h1, if_neg h2, if_neg h3, if_pos h4]
  · by_cases h5 : addr.toNat < 0xC000
    · simpa only [if_neg h1, if_neg h2, if_neg h3, if_neg h4, if_pos h5] using prg
    · simpa only [if_neg h1, if_neg h2, if_neg h3, if_neg h4, if_neg h5] using prg

/-- The router only reaches cells that exist (R23). -/
theorem isCell_cellOf (addr : Word) : isCell (cellOf addr) = true := by
  have h := addr.isLt
  rw [cellOf_eq]
  simp only [isCell_eq, Bool.or_eq_true, Bool.and_eq_true, decide_eq_true_eq]
  split
  · omega
  · split
    · omega
    · split <;> omega

theorem canon_toNat (addr : Word) : (canon addr).toNat = cellOf addr := rfl

theorem canon_eq_iff (a b : Word) : canon a = canon b ↔ cellOf a = cellOf b := by
  simp [cellOf, BitVec.toNat_inj]

theorem canon_eq_status_iff (addr : Word) : canon addr = 0x2002 ↔ cellOf addr = statusCell := by
  rw [← BitVec.toNat_inj]; rfl

/-- Zero-page and stack addresses are RAM: the cell is the address. -/
theorem cellOf_of_lt {addr : Word} (h : addr.toNat < 0x800) : cellOf addr = addr.toNat := by
  rw [cellOf_eq, if_pos (by omega)]; omega

theorem stackAddr_toNat (sp : Byte) : (stackAddr sp).toNat = 0x100 + sp.toNat := by
  simp [stackAddr, word_toNat]

theorem cellOf_stackAddr (sp : Byte) : cellOf (stackAddr sp) = 0x100 + sp.toNat := by
  have h := sp.isLt
  have := stackAddr_toNat sp
  rw [cellOf_of_lt (by omega), this]

theorem cellOf_zext16 (z : Byte) : cellOf (zext16 z) = z.toNat := by
  have h := z.isLt
  have := zext16_toNat z
  rw [cellOf_of_lt (by omega), this]

/-! ## Reads -/

/-- The byte of a read is the stored byte (R43, R329: the byte before the clear). -/
theorem memRead_fst (addr : Word) (s : State) : (memRead addr s).1 = peek s addr := by
  unfold memRead
  split
  · next h => simp [ppuStatus, peek, (canon_eq_status_iff addr).1 h]
  · rfl

/-- The state after a read: the effects of a status read or none (R43, R55). -/
theorem memRead_snd (addr : Word) (s : State) :
    (memRead addr s).2 = if canon addr = 0x2002 then statusReadEffects s else s := by
  unfold memRead
  rw [statusAddr_eq]
  split <;> rfl

theorem memRead_snd_of_ne {addr : Word} (h : canon addr ≠ 0x2002) (s : State) : (memRead addr s).2 = s := by
  rw [memRead_snd, if_neg h]

theorem canon_ne_status_of_lt {addr : Word} (h : addr.toNat < 0x2000) : canon addr ≠ 0x2002 := by
  rw [Ne, canon_eq_status_iff, cellOf_eq, if_pos h, statusCell_eq]; omega

theorem canon_ne_status_of_ge {addr : Word} (h : 0x4000 ≤ addr.toNat) : canon addr ≠ 0x2002 := by
  have := addr.isLt
  rw [Ne, canon_eq_status_iff, cellOf_eq, if_neg (by omega), if_neg (by omega), statusCell_eq]
  split <;> omega

/-- A zero-page or stack read is a plain RAM read (R45). -/
theorem memRead_zext16 (z : Byte) (s : State) : memRead (zext16 z) s = (peek s (zext16 z), s) := by
  have h := z.isLt
  have e := zext16_toNat z
  exact Prod.ext (memRead_fst _ _) (memRead_snd_of_ne (canon_ne_status_of_lt (by omega)) s)

theorem memRead_stackAddr (sp : Byte) (s : State) : memRead (stackAddr sp) s = (peek s (stackAddr sp), s) := by
  have h := sp.isLt
  have e := stackAddr_toNat sp
  exact Prod.ext (memRead_fst _ _) (memRead_snd_of_ne (canon_ne_status_of_lt (by omega)) s)

/-- A vector read is a plain ROM read (R49). -/
theorem read16_of_ge {addr : Word} (h : 0x8000 ≤ addr.toNat) (h' : addr.toNat < 0xFFFF) (s : State) :
    read16 addr s = (word (peek s (addr + 1)) (peek s addr), s) := by
  have e : (addr + 1).toNat = addr.toNat + 1 := by
    have one : (1 : Word).toNat = 1 := rfl
    rw [BitVec.toNat_add, one]
    omega
  have h1 := memRead_snd_of_ne (canon_ne_status_of_ge (addr := addr) (by omega)) s
  have h2 := memRead_snd_of_ne (canon_ne_status_of_ge (addr := addr + 1) (by omega)) s
  simp only [read16, h1, h2, memRead_fst]

/-! ## Writes -/

/-- Everything a bus write can do (R44): nothing (ROM, status register), or one cell of the byte array and, for PPU registers
5 and 6, the write toggle. -/
theorem memWrite_eq (addr : Word) (v : Byte) (s : State) : memWrite addr v s =
    if addr.toNat < 0x8000 ∧ cellOf addr ≠ statusCell then
      { s with
        mem := s.mem.write (cellOf addr) v
        w := if cellOf addr = 0x2005 ∨ cellOf addr = 0x2006 then !s.w else s.w }
    else s := by
  have hc := cellOf_eq addr
  unfold memWrite
  rw [regionOf_eq]
  by_cases h1 : addr.toNat < 0x2000
  · rw [if_pos h1] at hc
    have e2 : cellOf addr ≠ statusCell := by rw [statusCell_eq]; omega
    have e3 : ¬(cellOf addr = 0x2005 ∨ cellOf addr = 0x2006) := by omega
    rw [if_pos h1, if_pos ⟨by omega, e2⟩, if_neg e3]
    rfl
  by_cases h2 : addr.toNat < 0x4000
  · rw [if_neg h1, if_pos h2] at hc
    have e5 : (addr &&& (config.ppuRegCount - 1)).toNat = addr.toNat % 8 :=
      (BitVec.toNat_and ..).trans (and_lowMask addr.toNat 3)
    rw [if_neg h1, if_pos h2, hc, statusCell_eq]
    simp only [e5]
    unfold ppuRegisterWrite
    have r : addr.toNat % 8 < 8 := Nat.mod_lt _ (by decide)
    have e6 : addr.toNat < 0x8000 := by omega
    simp only [e6, true_and]
    generalize addr.toNat % 8 = i at r
    rcases (by omega : i = 0 ∨ i = 1 ∨ i = 2 ∨ i = 3 ∨ i = 4 ∨ i = 5 ∨ i = 6 ∨ i = 7) with
      rfl | rfl | rfl | rfl | rfl | rfl | rfl | rfl <;> rfl
  by_cases h3 : addr.toNat < 0x8000
  · rw [if_neg h1, if_neg h2, if_pos h3] at hc
    have e2 : cellOf addr ≠ statusCell := by rw [statusCell_eq]; omega
    have e3 : ¬(cellOf addr = 0x2005 ∨ cellOf addr = 0x2006) := by omega
    rw [if_neg h1, if_neg h2, if_pos h3, if_pos (And.intro h3 e2), if_neg e3]
    by_cases h4 : addr.toNat < 0x4020
    · rw [if_pos h4]; rfl
    · rw [if_neg h4]; rfl
  · rw [if_neg h1, if_neg h2, if_neg (by omega), if_neg h3]
    have h5 : ¬(addr.toNat < 0x8000 ∧ cellOf addr ≠ statusCell) := fun h => h3 h.1
    by_cases h4 : addr.toNat < 0xC000
    · rw [if_pos h4, if_neg h5]
    · rw [if_neg h4, if_neg h5]

/-- A write to RAM stores the byte and does nothing else (R45). -/
theorem memWrite_of_lt {addr : Word} (h : addr.toNat < 0x2000) (v : Byte) (s : State) :
    memWrite addr v s = s.withMem (s.mem.write (cellOf addr) v) := by
  have hc := cellOf_eq addr
  rw [if_pos h] at hc
  have e2 : cellOf addr ≠ statusCell := by rw [statusCell_eq]; omega
  have e3 : ¬(cellOf addr = 0x2005 ∨ cellOf addr = 0x2006) := by omega
  rw [memWrite_eq, if_pos ⟨by omega, e2⟩, if_neg e3]
  rfl

theorem memWrite_stackAddr (sp : Byte) (v : Byte) (s : State) :
    memWrite (stackAddr sp) v s = s.withMem (s.mem.write (0x100 + sp.toNat) v) := by
  have h := sp.isLt
  have e := stackAddr_toNat sp
  rw [memWrite_of_lt (by omega), cellOf_stackAddr]

/-- The canonical form is kept by every bus operation. -/
theorem wf_memWrite {s : State} (h : s.mem.wf) (addr : Word) (v : Byte) : (memWrite addr v s).mem.wf := by
  rw [memWrite_eq]
  split
  · exact Memory.wf_write h (isCell_cellOf addr) v
  · exact h

theorem wf_setStatus {s : State} (h : s.mem.wf) (v : Byte) : (setStatus v s).mem.wf :=
  Memory.wf_write h (by decide) v

theorem wf_statusReadEffects {s : State} (h : s.mem.wf) : (statusReadEffects s).mem.wf := wf_setStatus h _

theorem wf_memRead {s : State} (h : s.mem.wf) (addr : Word) : (memRead addr s).2.mem.wf := by
  rw [memRead_snd]
  split
  · exact wf_statusReadEffects h
  · exact h

theorem wf_poke {s : State} (h : s.mem.wf) (addr : Word) (v : Byte) : (poke addr v s).mem.wf :=
  Memory.wf_write h (isCell_cellOf addr) v

/-- A bus write leaves the byte behind every other cell as it was. -/
theorem peek_memWrite_other {a b : Word} (h : cellOf b ≠ cellOf a) (v : Byte) (s : State) :
    peek (memWrite a v s) b = peek s b := by
  rw [memWrite_eq]
  split
  · exact Memory.read_write_other _ _ h
  · rfl

/-- The status byte after it is written, in canonical form. -/
theorem ppuStatus_setStatus {s : State} (h : s.mem.wf) (v : Byte) : ppuStatus (setStatus v s) = v :=
  Memory.read_write_same h.1 _ _

/-- A status read changes no byte behind another cell. -/
theorem peek_statusReadEffects_other {b : Word} (h : cellOf b ≠ statusCell) (s : State) :
    peek (statusReadEffects s) b = peek s b :=
  Memory.read_write_other _ _ h

end Sys2Proof.Machine
end

