-- ==== Sys2Proof/Laws/Exec.lean ====
section
/-! SUPPORT. One equation per instruction: its meaning over the shared operations, with the cycle count (and for a skip opcode the
length) that the configuration gives it (R89, R90). A proof rewrites with it and unfolds neither `exec` nor the tables. -/

namespace Sys2Proof.Machine

theorem exec_ldaImm (v : Byte) (s : State) : exec (.ldaImm v) s =
    withSource 2 (.imm v) writeA s := rfl
theorem exec_ldaZp (z : Byte) (s : State) : exec (.ldaZp z) s =
    withSource 3 (.mem (.zp z)) writeA s := rfl
theorem exec_ldaZpx (z : Byte) (s : State) : exec (.ldaZpx z) s =
    withSource 4 (.mem (.zpx z)) writeA s := rfl
theorem exec_ldaAbs (addr : Word) (s : State) : exec (.ldaAbs addr) s =
    withSource 4 (.mem (.abs addr)) writeA s := rfl
theorem exec_ldaAbx (addr : Word) (s : State) : exec (.ldaAbx addr) s =
    withSource 4 (.mem (.abx addr)) writeA s := rfl
theorem exec_ldaAby (addr : Word) (s : State) : exec (.ldaAby addr) s =
    withSource 4 (.mem (.aby addr)) writeA s := rfl
theorem exec_ldaIzx (z : Byte) (s : State) : exec (.ldaIzx z) s =
    withSource 6 (.mem (.izx z)) writeA s := rfl
theorem exec_ldaIzy (z : Byte) (s : State) : exec (.ldaIzy z) s =
    withSource 5 (.mem (.izy z)) writeA s := rfl
theorem exec_ldxImm (v : Byte) (s : State) : exec (.ldxImm v) s =
    withSource 2 (.imm v) writeX s := rfl
theorem exec_ldxZp (z : Byte) (s : State) : exec (.ldxZp z) s =
    withSource 3 (.mem (.zp z)) writeX s := rfl
theorem exec_ldxZpy (z : Byte) (s : State) : exec (.ldxZpy z) s =
    withSource 4 (.mem (.zpy z)) writeX s := rfl
theorem exec_ldxAbs (addr : Word) (s : State) : exec (.ldxAbs addr) s =
    withSource 4 (.mem (.abs addr)) writeX s := rfl
theorem exec_ldxAby (addr : Word) (s : State) : exec (.ldxAby addr) s =
    withSource 4 (.mem (.aby addr)) writeX s := rfl
theorem exec_ldyImm (v : Byte) (s : State) : exec (.ldyImm v) s =
    withSource 2 (.imm v) writeY s := rfl
theorem exec_ldyZp (z : Byte) (s : State) : exec (.ldyZp z) s =
    withSource 3 (.mem (.zp z)) writeY s := rfl
theorem exec_ldyZpx (z : Byte) (s : State) : exec (.ldyZpx z) s =
    withSource 4 (.mem (.zpx z)) writeY s := rfl
theorem exec_ldyAbs (addr : Word) (s : State) : exec (.ldyAbs addr) s =
    withSource 4 (.mem (.abs addr)) writeY s := rfl
theorem exec_ldyAbx (addr : Word) (s : State) : exec (.ldyAbx addr) s =
    withSource 4 (.mem (.abx addr)) writeY s := rfl
theorem exec_staZp (z : Byte) (s : State) : exec (.staZp z) s =
    storeAt 3 (.zp z) s.a s := rfl
theorem exec_staZpx (z : Byte) (s : State) : exec (.staZpx z) s =
    storeAt 4 (.zpx z) s.a s := rfl
theorem exec_staAbs (addr : Word) (s : State) : exec (.staAbs addr) s =
    storeAt 4 (.abs addr) s.a s := rfl
theorem exec_staAbx (addr : Word) (s : State) : exec (.staAbx addr) s =
    storeAt 5 (.abx addr) s.a s := rfl
theorem exec_staAby (addr : Word) (s : State) : exec (.staAby addr) s =
    storeAt 5 (.aby addr) s.a s := rfl
theorem exec_staIzx (z : Byte) (s : State) : exec (.staIzx z) s =
    storeAt 6 (.izx z) s.a s := rfl
theorem exec_staIzy (z : Byte) (s : State) : exec (.staIzy z) s =
    storeAt 6 (.izy z) s.a s := rfl
theorem exec_stxZp (z : Byte) (s : State) : exec (.stxZp z) s =
    storeAt 3 (.zp z) s.x s := rfl
theorem exec_stxZpy (z : Byte) (s : State) : exec (.stxZpy z) s =
    storeAt 4 (.zpy z) s.x s := rfl
theorem exec_stxAbs (addr : Word) (s : State) : exec (.stxAbs addr) s =
    storeAt 4 (.abs addr) s.x s := rfl
theorem exec_styZp (z : Byte) (s : State) : exec (.styZp z) s =
    storeAt 3 (.zp z) s.y s := rfl
theorem exec_styZpx (z : Byte) (s : State) : exec (.styZpx z) s =
    storeAt 4 (.zpx z) s.y s := rfl
theorem exec_styAbs (addr : Word) (s : State) : exec (.styAbs addr) s =
    storeAt 4 (.abs addr) s.y s := rfl
theorem exec_tax (s : State) : exec .tax s =
    done 2 (writeX s.a s) := rfl
theorem exec_tay (s : State) : exec .tay s =
    done 2 (writeY s.a s) := rfl
theorem exec_txa (s : State) : exec .txa s =
    done 2 (writeA s.x s) := rfl
theorem exec_tya (s : State) : exec .tya s =
    done 2 (writeA s.y s) := rfl
theorem exec_tsx (s : State) : exec .tsx s =
    done 2 (writeX s.sp s) := rfl
theorem exec_txs (s : State) : exec .txs s =
    done 2 (s.withSp s.x) := rfl
theorem exec_pha (s : State) : exec .pha s =
    done 3 (push s.a s) := rfl
theorem exec_php (s : State) : exec .php s =
    done 3 (push (statusFromInstr s.p) s) := rfl
theorem exec_pla (s : State) : exec .pla s =
    (let v := pull s; done 4 (writeA v.1 v.2)) := rfl
theorem exec_plp (s : State) : exec .plp s =
    (let v := pull s; done 4 (v.2.withP (statusPulled v.1))) := rfl
theorem exec_andImm (v : Byte) (s : State) : exec (.andImm v) s =
    withSource 2 (.imm v) andA s := rfl
theorem exec_andZp (z : Byte) (s : State) : exec (.andZp z) s =
    withSource 3 (.mem (.zp z)) andA s := rfl
theorem exec_andZpx (z : Byte) (s : State) : exec (.andZpx z) s =
    withSource 4 (.mem (.zpx z)) andA s := rfl
theorem exec_andAbs (addr : Word) (s : State) : exec (.andAbs addr) s =
    withSource 4 (.mem (.abs addr)) andA s := rfl
theorem exec_andAbx (addr : Word) (s : State) : exec (.andAbx addr) s =
    withSource 4 (.mem (.abx addr)) andA s := rfl
theorem exec_andAby (addr : Word) (s : State) : exec (.andAby addr) s =
    withSource 4 (.mem (.aby addr)) andA s := rfl
theorem exec_andIzx (z : Byte) (s : State) : exec (.andIzx z) s =
    withSource 6 (.mem (.izx z)) andA s := rfl
theorem exec_andIzy (z : Byte) (s : State) : exec (.andIzy z) s =
    withSource 5 (.mem (.izy z)) andA s := rfl
theorem exec_oraImm (v : Byte) (s : State) : exec (.oraImm v) s =
    withSource 2 (.imm v) oraA s := rfl
theorem exec_oraZp (z : Byte) (s : State) : exec (.oraZp z) s =
    withSource 3 (.mem (.zp z)) oraA s := rfl
theorem exec_oraZpx (z : Byte) (s : State) : exec (.oraZpx z) s =
    withSource 4 (.mem (.zpx z)) oraA s := rfl
theorem exec_oraAbs (addr : Word) (s : State) : exec (.oraAbs addr) s =
    withSource 4 (.mem (.abs addr)) oraA s := rfl
theorem exec_oraAbx (addr : Word) (s : State) : exec (.oraAbx addr) s =
    withSource 4 (.mem (.abx addr)) oraA s := rfl
theorem exec_oraAby (addr : Word) (s : State) : exec (.oraAby addr) s =
    withSource 4 (.mem (.aby addr)) oraA s := rfl
theorem exec_oraIzx (z : Byte) (s : State) : exec (.oraIzx z) s =
    withSource 6 (.mem (.izx z)) oraA s := rfl
theorem exec_oraIzy (z : Byte) (s : State) : exec (.oraIzy z) s =
    withSource 5 (.mem (.izy z)) oraA s := rfl
theorem exec_eorImm (v : Byte) (s : State) : exec (.eorImm v) s =
    withSource 2 (.imm v) eorA s := rfl
theorem exec_eorZp (z : Byte) (s : State) : exec (.eorZp z) s =
    withSource 3 (.mem (.zp z)) eorA s := rfl
theorem exec_eorZpx (z : Byte) (s : State) : exec (.eorZpx z) s =
    withSource 4 (.mem (.zpx z)) eorA s := rfl
theorem exec_eorAbs (addr : Word) (s : State) : exec (.eorAbs addr) s =
    withSource 4 (.mem (.abs addr)) eorA s := rfl
theorem exec_eorAbx (addr : Word) (s : State) : exec (.eorAbx addr) s =
    withSource 4 (.mem (.abx addr)) eorA s := rfl
theorem exec_eorAby (addr : Word) (s : State) : exec (.eorAby addr) s =
    withSource 4 (.mem (.aby addr)) eorA s := rfl
theorem exec_eorIzx (z : Byte) (s : State) : exec (.eorIzx z) s =
    withSource 6 (.mem (.izx z)) eorA s := rfl
theorem exec_eorIzy (z : Byte) (s : State) : exec (.eorIzy z) s =
    withSource 5 (.mem (.izy z)) eorA s := rfl
theorem exec_bitZp (z : Byte) (s : State) : exec (.bitZp z) s =
    withSource 3 (.mem (.zp z)) bitTest s := rfl
theorem exec_bitAbs (addr : Word) (s : State) : exec (.bitAbs addr) s =
    withSource 4 (.mem (.abs addr)) bitTest s := rfl
theorem exec_adcImm (v : Byte) (s : State) : exec (.adcImm v) s =
    withSource 2 (.imm v) adcA s := rfl
theorem exec_adcZp (z : Byte) (s : State) : exec (.adcZp z) s =
    withSource 3 (.mem (.zp z)) adcA s := rfl
theorem exec_adcZpx (z : Byte) (s : State) : exec (.adcZpx z) s =
    withSource 4 (.mem (.zpx z)) adcA s := rfl
theorem exec_adcAbs (addr : Word) (s : State) : exec (.adcAbs addr) s =
    withSource 4 (.mem (.abs addr)) adcA s := rfl
theorem exec_adcAbx (addr : Word) (s : State) : exec (.adcAbx addr) s =
    withSource 4 (.mem (.abx addr)) adcA s := rfl
theorem exec_adcAby (addr : Word) (s : State) : exec (.adcAby addr) s =
    withSource 4 (.mem (.aby addr)) adcA s := rfl
theorem exec_adcIzx (z : Byte) (s : State) : exec (.adcIzx z) s =
    withSource 6 (.mem (.izx z)) adcA s := rfl
theorem exec_adcIzy (z : Byte) (s : State) : exec (.adcIzy z) s =
    withSource 5 (.mem (.izy z)) adcA s := rfl
theorem exec_sbcImm (v : Byte) (s : State) : exec (.sbcImm v) s =
    withSource 2 (.imm v) sbcA s := rfl
theorem exec_sbcZp (z : Byte) (s : State) : exec (.sbcZp z) s =
    withSource 3 (.mem (.zp z)) sbcA s := rfl
theorem exec_sbcZpx (z : Byte) (s : State) : exec (.sbcZpx z) s =
    withSource 4 (.mem (.zpx z)) sbcA s := rfl
theorem exec_sbcAbs (addr : Word) (s : State) : exec (.sbcAbs addr) s =
    withSource 4 (.mem (.abs addr)) sbcA s := rfl
theorem exec_sbcAbx (addr : Word) (s : State) : exec (.sbcAbx addr) s =
    withSource 4 (.mem (.abx addr)) sbcA s := rfl
theorem exec_sbcAby (addr : Word) (s : State) : exec (.sbcAby addr) s =
    withSource 4 (.mem (.aby addr)) sbcA s := rfl
theorem exec_sbcIzx (z : Byte) (s : State) : exec (.sbcIzx z) s =
    withSource 6 (.mem (.izx z)) sbcA s := rfl
theorem exec_sbcIzy (z : Byte) (s : State) : exec (.sbcIzy z) s =
    withSource 5 (.mem (.izy z)) sbcA s := rfl
theorem exec_cmpImm (v : Byte) (s : State) : exec (.cmpImm v) s =
    withSource 2 (.imm v) cmpA s := rfl
theorem exec_cmpZp (z : Byte) (s : State) : exec (.cmpZp z) s =
    withSource 3 (.mem (.zp z)) cmpA s := rfl
theorem exec_cmpZpx (z : Byte) (s : State) : exec (.cmpZpx z) s =
    withSource 4 (.mem (.zpx z)) cmpA s := rfl
theorem exec_cmpAbs (addr : Word) (s : State) : exec (.cmpAbs addr) s =
    withSource 4 (.mem (.abs addr)) cmpA s := rfl
theorem exec_cmpAbx (addr : Word) (s : State) : exec (.cmpAbx addr) s =
    withSource 4 (.mem (.abx addr)) cmpA s := rfl
theorem exec_cmpAby (addr : Word) (s : State) : exec (.cmpAby addr) s =
    withSource 4 (.mem (.aby addr)) cmpA s := rfl
theorem exec_cmpIzx (z : Byte) (s : State) : exec (.cmpIzx z) s =
    withSource 6 (.mem (.izx z)) cmpA s := rfl
theorem exec_cmpIzy (z : Byte) (s : State) : exec (.cmpIzy z) s =
    withSource 5 (.mem (.izy z)) cmpA s := rfl
theorem exec_cpxImm (v : Byte) (s : State) : exec (.cpxImm v) s =
    withSource 2 (.imm v) cmpX s := rfl
theorem exec_cpxZp (z : Byte) (s : State) : exec (.cpxZp z) s =
    withSource 3 (.mem (.zp z)) cmpX s := rfl
theorem exec_cpxAbs (addr : Word) (s : State) : exec (.cpxAbs addr) s =
    withSource 4 (.mem (.abs addr)) cmpX s := rfl
theorem exec_cpyImm (v : Byte) (s : State) : exec (.cpyImm v) s =
    withSource 2 (.imm v) cmpY s := rfl
theorem exec_cpyZp (z : Byte) (s : State) : exec (.cpyZp z) s =
    withSource 3 (.mem (.zp z)) cmpY s := rfl
theorem exec_cpyAbs (addr : Word) (s : State) : exec (.cpyAbs addr) s =
    withSource 4 (.mem (.abs addr)) cmpY s := rfl
theorem exec_incZp (z : Byte) (s : State) : exec (.incZp z) s =
    modifyAt 5 (.zp z) incr s := rfl
theorem exec_incZpx (z : Byte) (s : State) : exec (.incZpx z) s =
    modifyAt 6 (.zpx z) incr s := rfl
theorem exec_incAbs (addr : Word) (s : State) : exec (.incAbs addr) s =
    modifyAt 6 (.abs addr) incr s := rfl
theorem exec_incAbx (addr : Word) (s : State) : exec (.incAbx addr) s =
    modifyAt 7 (.abx addr) incr s := rfl
theorem exec_decZp (z : Byte) (s : State) : exec (.decZp z) s =
    modifyAt 5 (.zp z) decr s := rfl
theorem exec_decZpx (z : Byte) (s : State) : exec (.decZpx z) s =
    modifyAt 6 (.zpx z) decr s := rfl
theorem exec_decAbs (addr : Word) (s : State) : exec (.decAbs addr) s =
    modifyAt 6 (.abs addr) decr s := rfl
theorem exec_decAbx (addr : Word) (s : State) : exec (.decAbx addr) s =
    modifyAt 7 (.abx addr) decr s := rfl
theorem exec_inx (s : State) : exec .inx s =
    (let t := incr s.x s.p; done 2 ((s.withX t.r).withP t.p)) := rfl
theorem exec_iny (s : State) : exec .iny s =
    (let t := incr s.y s.p; done 2 ((s.withY t.r).withP t.p)) := rfl
theorem exec_dex (s : State) : exec .dex s =
    (let t := decr s.x s.p; done 2 ((s.withX t.r).withP t.p)) := rfl
theorem exec_dey (s : State) : exec .dey s =
    (let t := decr s.y s.p; done 2 ((s.withY t.r).withP t.p)) := rfl
theorem exec_aslAcc (s : State) : exec .aslAcc s =
    modifyA 2 asl s := rfl
theorem exec_aslZp (z : Byte) (s : State) : exec (.aslZp z) s =
    modifyAt 5 (.zp z) asl s := rfl
theorem exec_aslZpx (z : Byte) (s : State) : exec (.aslZpx z) s =
    modifyAt 6 (.zpx z) asl s := rfl
theorem exec_aslAbs (addr : Word) (s : State) : exec (.aslAbs addr) s =
    modifyAt 6 (.abs addr) asl s := rfl
theorem exec_aslAbx (addr : Word) (s : State) : exec (.aslAbx addr) s =
    modifyAt 7 (.abx addr) asl s := rfl
theorem exec_lsrAcc (s : State) : exec .lsrAcc s =
    modifyA 2 lsr s := rfl
theorem exec_lsrZp (z : Byte) (s : State) : exec (.lsrZp z) s =
    modifyAt 5 (.zp z) lsr s := rfl
theorem exec_lsrZpx (z : Byte) (s : State) : exec (.lsrZpx z) s =
    modifyAt 6 (.zpx z) lsr s := rfl
theorem exec_lsrAbs (addr : Word) (s : State) : exec (.lsrAbs addr) s =
    modifyAt 6 (.abs addr) lsr s := rfl
theorem exec_lsrAbx (addr : Word) (s : State) : exec (.lsrAbx addr) s =
    modifyAt 7 (.abx addr) lsr s := rfl
theorem exec_rolAcc (s : State) : exec .rolAcc s =
    modifyA 2 rol s := rfl
theorem exec_rolZp (z : Byte) (s : State) : exec (.rolZp z) s =
    modifyAt 5 (.zp z) rol s := rfl
theorem exec_rolZpx (z : Byte) (s : State) : exec (.rolZpx z) s =
    modifyAt 6 (.zpx z) rol s := rfl
theorem exec_rolAbs (addr : Word) (s : State) : exec (.rolAbs addr) s =
    modifyAt 6 (.abs addr) rol s := rfl
theorem exec_rolAbx (addr : Word) (s : State) : exec (.rolAbx addr) s =
    modifyAt 7 (.abx addr) rol s := rfl
theorem exec_rorAcc (s : State) : exec .rorAcc s =
    modifyA 2 ror s := rfl
theorem exec_rorZp (z : Byte) (s : State) : exec (.rorZp z) s =
    modifyAt 5 (.zp z) ror s := rfl
theorem exec_rorZpx (z : Byte) (s : State) : exec (.rorZpx z) s =
    modifyAt 6 (.zpx z) ror s := rfl
theorem exec_rorAbs (addr : Word) (s : State) : exec (.rorAbs addr) s =
    modifyAt 6 (.abs addr) ror s := rfl
theorem exec_rorAbx (addr : Word) (s : State) : exec (.rorAbx addr) s =
    modifyAt 7 (.abx addr) ror s := rfl
theorem exec_jmpAbs (addr : Word) (s : State) : exec (.jmpAbs addr) s =
    done 3 (s.withPc addr) := rfl
theorem exec_jmpInd (ptr : Word) (s : State) : exec (.jmpInd ptr) s =
    (let t := indirectTarget ptr s; done 5 (t.2.withPc t.1)) := rfl
theorem exec_jsr (addr : Word) (s : State) : exec (.jsr addr) s =
    done 6 ((pushWord (s.pc - 1) s).withPc addr) := rfl
theorem exec_rts (s : State) : exec .rts s =
    (let t := pullWord s; done 6 (t.2.withPc (t.1 + 1))) := rfl
theorem exec_bcc (off : Byte) (s : State) : exec (.bcc off) s =
    branch 2 (!flagC s.p) off s := rfl
theorem exec_bcs (off : Byte) (s : State) : exec (.bcs off) s =
    branch 2 (flagC s.p) off s := rfl
theorem exec_beq (off : Byte) (s : State) : exec (.beq off) s =
    branch 2 (flagZ s.p) off s := rfl
theorem exec_bmi (off : Byte) (s : State) : exec (.bmi off) s =
    branch 2 (flagN s.p) off s := rfl
theorem exec_bne (off : Byte) (s : State) : exec (.bne off) s =
    branch 2 (!flagZ s.p) off s := rfl
theorem exec_bpl (off : Byte) (s : State) : exec (.bpl off) s =
    branch 2 (!flagN s.p) off s := rfl
theorem exec_bvc (off : Byte) (s : State) : exec (.bvc off) s =
    branch 2 (!flagV s.p) off s := rfl
theorem exec_bvs (off : Byte) (s : State) : exec (.bvs off) s =
    branch 2 (flagV s.p) off s := rfl
theorem exec_clc (s : State) : exec .clc s =
    done 2 (s.withP (setC false s.p)) := rfl
theorem exec_cld (s : State) : exec .cld s =
    done 2 (s.withP (setD false s.p)) := rfl
theorem exec_cli (s : State) : exec .cli s =
    done 2 (s.withP (setI false s.p)) := rfl
theorem exec_clv (s : State) : exec .clv s =
    done 2 (s.withP (setV false s.p)) := rfl
theorem exec_sec (s : State) : exec .sec s =
    done 2 (s.withP (setC true s.p)) := rfl
theorem exec_sed (s : State) : exec .sed s =
    done 2 (s.withP (setD true s.p)) := rfl
theorem exec_sei (s : State) : exec .sei s =
    done 2 (s.withP (setI true s.p)) := rfl
theorem exec_nop (s : State) : exec .nop s =
    done 2 s := rfl
theorem exec_brk (s : State) : exec .brk s =
    done 7 (interruptEntry (s.pc + 1) (statusFromInstr s.p) 0xFFFE s) := rfl
theorem exec_rti (s : State) : exec .rti s =
    done 6 (interruptReturn s) := rfl
theorem exec_skip04 (s : State) : exec .skip04 s =
    skipBytes 2 3 s := rfl
theorem exec_skip0C (s : State) : exec .skip0C s =
    skipBytes 3 4 s := rfl
theorem exec_skip14 (s : State) : exec .skip14 s =
    skipBytes 2 4 s := rfl
theorem exec_skip1A (s : State) : exec .skip1A s =
    skipBytes 1 2 s := rfl
theorem exec_skip1C (s : State) : exec .skip1C s =
    skipBytes 3 4 s := rfl
theorem exec_skip34 (s : State) : exec .skip34 s =
    skipBytes 2 4 s := rfl
theorem exec_skip3A (s : State) : exec .skip3A s =
    skipBytes 1 2 s := rfl
theorem exec_skip3C (s : State) : exec .skip3C s =
    skipBytes 3 4 s := rfl
theorem exec_skip44 (s : State) : exec .skip44 s =
    skipBytes 2 3 s := rfl
theorem exec_skip54 (s : State) : exec .skip54 s =
    skipBytes 2 4 s := rfl
theorem exec_skip5A (s : State) : exec .skip5A s =
    skipBytes 1 2 s := rfl
theorem exec_skip5C (s : State) : exec .skip5C s =
    skipBytes 3 4 s := rfl
theorem exec_skip64 (s : State) : exec .skip64 s =
    skipBytes 2 3 s := rfl
theorem exec_skip74 (s : State) : exec .skip74 s =
    skipBytes 2 4 s := rfl
theorem exec_skip7A (s : State) : exec .skip7A s =
    skipBytes 1 2 s := rfl
theorem exec_skip7C (s : State) : exec .skip7C s =
    skipBytes 3 4 s := rfl
theorem exec_skip80 (s : State) : exec .skip80 s =
    skipBytes 2 2 s := rfl
theorem exec_skip82 (s : State) : exec .skip82 s =
    skipBytes 2 2 s := rfl
theorem exec_skip89 (s : State) : exec .skip89 s =
    skipBytes 2 2 s := rfl
theorem exec_skipC2 (s : State) : exec .skipC2 s =
    skipBytes 2 2 s := rfl
theorem exec_skipD4 (s : State) : exec .skipD4 s =
    skipBytes 2 4 s := rfl
theorem exec_skipDA (s : State) : exec .skipDA s =
    skipBytes 1 2 s := rfl
theorem exec_skipDC (s : State) : exec .skipDC s =
    skipBytes 3 4 s := rfl
theorem exec_skipE2 (s : State) : exec .skipE2 s =
    skipBytes 2 2 s := rfl
theorem exec_skipF4 (s : State) : exec .skipF4 s =
    skipBytes 2 4 s := rfl
theorem exec_skipFA (s : State) : exec .skipFA s =
    skipBytes 1 2 s := rfl
theorem exec_skipFC (s : State) : exec .skipFC s =
    skipBytes 3 4 s := rfl

end Sys2Proof.Machine
end

