-- ==== Sys2Proof/Laws/Flags.lean ====
section
/-! SUPPORT. Laws of the status register: which bit each flag write touches. -/

namespace Sys2Proof.Machine

/-- Bit `k` after writing a mask: the bits of the mask hold the value, the others are kept. -/
theorem getLsbD_setFlag (mask : Byte) (v : Bool) (p : Byte) (k : Nat) (hk : k < 8) :
    (setFlag mask v p).getLsbD k = if mask.getLsbD k then v else p.getLsbD k := by
  cases v <;> cases hm : mask.getLsbD k <;> cases hp : p.getLsbD k <;>
    simp only [setFlag, if_true, Bool.false_eq_true, if_false, BitVec.getLsbD_or, BitVec.getLsbD_and, BitVec.getLsbD_not, hm, hp, hk,
      decide_true] <;> rfl

theorem getLsbD_setC (v : Bool) (p : Byte) (k : Nat) (hk : k < 8) :
    (setC v p).getLsbD k = if k = 0 then v else p.getLsbD k := by
  rw [setC, getLsbD_setFlag _ _ _ _ hk]
  rcases (by omega : k = 0 ∨ k = 1 ∨ k = 2 ∨ k = 3 ∨ k = 4 ∨ k = 5 ∨ k = 6 ∨ k = 7) with
    rfl | rfl | rfl | rfl | rfl | rfl | rfl | rfl <;> rfl

theorem getLsbD_setZ (v : Bool) (p : Byte) (k : Nat) (hk : k < 8) :
    (setZ v p).getLsbD k = if k = 1 then v else p.getLsbD k := by
  rw [setZ, getLsbD_setFlag _ _ _ _ hk]
  rcases (by omega : k = 0 ∨ k = 1 ∨ k = 2 ∨ k = 3 ∨ k = 4 ∨ k = 5 ∨ k = 6 ∨ k = 7) with
    rfl | rfl | rfl | rfl | rfl | rfl | rfl | rfl <;> rfl

theorem getLsbD_setI (v : Bool) (p : Byte) (k : Nat) (hk : k < 8) :
    (setI v p).getLsbD k = if k = 2 then v else p.getLsbD k := by
  rw [setI, getLsbD_setFlag _ _ _ _ hk]
  rcases (by omega : k = 0 ∨ k = 1 ∨ k = 2 ∨ k = 3 ∨ k = 4 ∨ k = 5 ∨ k = 6 ∨ k = 7) with
    rfl | rfl | rfl | rfl | rfl | rfl | rfl | rfl <;> rfl

theorem getLsbD_setD (v : Bool) (p : Byte) (k : Nat) (hk : k < 8) :
    (setD v p).getLsbD k = if k = 3 then v else p.getLsbD k := by
  rw [setD, getLsbD_setFlag _ _ _ _ hk]
  rcases (by omega : k = 0 ∨ k = 1 ∨ k = 2 ∨ k = 3 ∨ k = 4 ∨ k = 5 ∨ k = 6 ∨ k = 7) with
    rfl | rfl | rfl | rfl | rfl | rfl | rfl | rfl <;> rfl

theorem getLsbD_setV (v : Bool) (p : Byte) (k : Nat) (hk : k < 8) :
    (setV v p).getLsbD k = if k = 6 then v else p.getLsbD k := by
  rw [setV, getLsbD_setFlag _ _ _ _ hk]
  rcases (by omega : k = 0 ∨ k = 1 ∨ k = 2 ∨ k = 3 ∨ k = 4 ∨ k = 5 ∨ k = 6 ∨ k = 7) with
    rfl | rfl | rfl | rfl | rfl | rfl | rfl | rfl <;> rfl

theorem getLsbD_setN (v : Bool) (p : Byte) (k : Nat) (hk : k < 8) :
    (setN v p).getLsbD k = if k = 7 then v else p.getLsbD k := by
  rw [setN, getLsbD_setFlag _ _ _ _ hk]
  rcases (by omega : k = 0 ∨ k = 1 ∨ k = 2 ∨ k = 3 ∨ k = 4 ∨ k = 5 ∨ k = 6 ∨ k = 7) with
    rfl | rfl | rfl | rfl | rfl | rfl | rfl | rfl <;> rfl

theorem getLsbD_setZN (v p : Byte) (k : Nat) (hk : k < 8) :
    (setZN v p).getLsbD k = if k = 7 then v.getLsbD 7 else if k = 1 then v == 0 else p.getLsbD k := by
  rw [setZN, getLsbD_setN _ _ _ hk, getLsbD_setZ _ _ _ hk]

/-- Two status bytes with the same eight bits are the same byte. -/
theorem status_ext {p q : Byte} (h : ∀ k, k < 8 → p.getLsbD k = q.getLsbD k) : p = q :=
  BitVec.eq_of_getLsbD_eq (fun k hk => h k hk)

end Sys2Proof.Machine
end

