-- ==== Sys2Proof/Laws/Ops.lean ====
section
/-! SUPPORT. One equation per shared operation: the stack, interrupt entry and return, the addressing modes, operand reads. -/

namespace Sys2Proof.Machine

open Sys2Proof.Laws

/-! ## Stack (R120, R121) -/

theorem push_eq (v : Byte) (s : State) :
    push v s = { s with mem := s.mem.write (0x100 + s.sp.toNat) v, sp := s.sp - 1 } := by
  unfold push
  rw [memWrite_stackAddr]
  rfl

theorem pull_eq (s : State) :
    pull s = (s.mem.read (0x100 + (s.sp + 1).toNat), { s with sp := s.sp + 1 }) := by
  unfold pull
  rw [memRead_stackAddr]
  unfold peek
  rw [cellOf_stackAddr]
  rfl

theorem pushWord_eq (v : Word) (s : State) : pushWord v s =
    { s with
      mem := (s.mem.write (0x100 + s.sp.toNat) (hi8 v)).write (0x100 + (s.sp - 1).toNat) (lo8 v)
      sp := s.sp - 1 - 1 } := by
  unfold pushWord
  rw [push_eq, push_eq]

theorem pullWord_eq (s : State) : pullWord s =
    (word (s.mem.read (0x100 + (s.sp + 1 + 1).toNat)) (s.mem.read (0x100 + (s.sp + 1).toNat)), { s with sp := s.sp + 1 + 1 }) := by
  unfold pullWord
  simp only [pull_eq]

/-! ## Interrupts (R198, R199, R307) -/

/-- The byte array after the three pushes of an interrupt entry. -/
def entryMem (ret : Word) (status : Byte) (s : State) : Memory :=
  ((s.mem.write (0x100 + s.sp.toNat) (hi8 ret)).write (0x100 + (s.sp - 1).toNat) (lo8 ret)).write
    (0x100 + (s.sp - 1 - 1).toNat) status

/-- The pushes of an interrupt entry change no byte outside the stack page. -/
theorem read_entryMem {k : Nat} (h : 0x200 ≤ k) (ret : Word) (status : Byte) (s : State) :
    (entryMem ret status s).read k = s.mem.read k := by
  unfold entryMem
  have h0 := s.sp.isLt
  have h1 := (s.sp - 1).isLt
  have h2 := (s.sp - 1 - 1).isLt
  rw [Memory.read_write_other _ _ (by omega), Memory.read_write_other _ _ (by omega),
    Memory.read_write_other _ _ (by omega)]

theorem interruptEntry_eq {vector : Word} (h : 0x8000 ≤ vector.toNat) (h' : vector.toNat < 0xFFFF) (ret : Word) (status : Byte)
    (s : State) : interruptEntry ret status vector s =
    { s with
      mem := entryMem ret status s
      sp := s.sp - 1 - 1 - 1
      p := setI true s.p
      pc := word (peek s (vector + 1)) (peek s vector)
      cycleCount := 7 } := by
  have one : (1 : Word).toNat = 1 := rfl
  have e : (vector + 1).toNat = vector.toNat + 1 := by
    rw [BitVec.toNat_add, one]
    omega
  have c0 : 0x200 ≤ cellOf vector := by
    rw [cellOf_eq, if_neg (by omega), if_neg (by omega), if_neg (by omega)]
    omega
  have c1 : 0x200 ≤ cellOf (vector + 1) := by
    rw [cellOf_eq, if_neg (by omega), if_neg (by omega), if_neg (by omega)]
    omega
  unfold interruptEntry
  simp only [pushWord_eq, push_eq]
  rw [read16_of_ge h h']
  have r0 := read_entryMem c0 ret status s
  have r1 := read_entryMem c1 ret status s
  unfold entryMem at r0 r1
  simp only [peek, State.withP, State.withPc, State.withCycles, r0, r1]
  rfl

theorem interruptReturn_eq (s : State) : interruptReturn s =
    { s with
      p := statusPulled (s.mem.read (0x100 + (s.sp + 1).toNat))
      sp := s.sp + 1 + 1 + 1
      pc := word (s.mem.read (0x100 + (s.sp + 1 + 1 + 1).toNat)) (s.mem.read (0x100 + (s.sp + 1 + 1).toNat)) } := by
  unfold interruptReturn
  simp only [pull_eq, pullWord_eq, State.withP, State.withPc]

/-! ## Addressing modes (R75 to R85) -/

theorem zpPointer_eq (z : Byte) (s : State) :
    zpPointer z s = (word (peek s (zext16 (z + 1))) (peek s (zext16 z)), s) := by
  unfold zpPointer
  simp only [memRead_zext16]

/-- Finding an effective address has no side effect: pointers lie in page 0. -/
@[simp] theorem locate_state (m : MemMode) (s : State) : (locate m s).state = s := by
  cases m <;> simp [locate, indexed, zpPointer_eq]

/-- An operand read is the byte behind the effective address; its side effects are those of one bus read. -/
theorem readSource_mem (m : MemMode) (s : State) : readSource (.mem m) s =
    { value := peek s (locate m s).ea, crossed := (locate m s).crossed, state := (memRead (locate m s).ea s).2 } := by
  simp only [readSource, locate_state, memRead_fst]

theorem readSource_imm (v : Byte) (s : State) : readSource (.imm v) s = { value := v, crossed := false, state := s } := rfl

/-- A status read leaves every CPU register, the PPU counters and the latches of the CPU as they were. -/
theorem statusReadEffects_frame (s : State) :
    (statusReadEffects s).a = s.a ∧ (statusReadEffects s).x = s.x ∧ (statusReadEffects s).y = s.y ∧
    (statusReadEffects s).pc = s.pc ∧ (statusReadEffects s).sp = s.sp ∧ (statusReadEffects s).p = s.p ∧
    (statusReadEffects s).cycleCount = s.cycleCount ∧ (statusReadEffects s).nmiPending = s.nmiPending ∧
    (statusReadEffects s).fault = s.fault ∧ (statusReadEffects s).cycle = s.cycle ∧
    (statusReadEffects s).scanline = s.scanline ∧ (statusReadEffects s).frameCount = s.frameCount :=
  ⟨rfl, rfl, rfl, rfl, rfl, rfl, rfl, rfl, rfl, rfl, rfl, rfl⟩

end Sys2Proof.Machine
end

