-- ==== Sys2Proof/Laws/PerInstr.lean ====
section
/-! SUPPORT. For every instruction: the row of the opcode table its first byte selects, and what that row builds from the
bytes after it. -/

namespace Sys2Proof.Laws

/-- The bytes of `i` select a row of the table, that row has the length of `i`, and it builds `i` from the bytes that follow. -/
def Rows.Statement (i : Instr) : Prop :=
  ∃ op rest r, encode i = op :: rest ∧ lookup op = some r ∧ r.length = rest.length + 1 ∧
    r.build (rest.getD 0 0) (rest.getD 1 0) = i

/-- The rows of the skip opcodes with the lengths SKIP_TABLE gives them (R90). -/
theorem rowsSkip_eq : rowsSkip = [
    fs 0x04 2 .skip04, fs 0x0C 3 .skip0C, fs 0x14 2 .skip14, fs 0x1A 1 .skip1A, fs 0x1C 3 .skip1C, fs 0x34 2 .skip34,
    fs 0x3A 1 .skip3A, fs 0x3C 3 .skip3C, fs 0x44 2 .skip44, fs 0x54 2 .skip54, fs 0x5A 1 .skip5A, fs 0x5C 3 .skip5C,
    fs 0x64 2 .skip64, fs 0x74 2 .skip74, fs 0x7A 1 .skip7A, fs 0x7C 3 .skip7C, fs 0x80 2 .skip80, fs 0x82 2 .skip82,
    fs 0x89 2 .skip89, fs 0xC2 2 .skipC2, fs 0xD4 2 .skipD4, fs 0xDA 1 .skipDA, fs 0xDC 3 .skipDC, fs 0xE2 2 .skipE2,
    fs 0xF4 2 .skipF4, fs 0xFA 1 .skipFA, fs 0xFC 3 .skipFC ] := rfl

theorem Rows.ldaImm (v : Byte) : Rows.Statement (.ldaImm v) := ⟨_, _, _, rfl, rfl, rfl, rfl⟩
theorem Rows.ldaZp (z : Byte) : Rows.Statement (.ldaZp z) := ⟨_, _, _, rfl, rfl, rfl, rfl⟩
theorem Rows.ldaZpx (z : Byte) : Rows.Statement (.ldaZpx z) := ⟨_, _, _, rfl, rfl, rfl, rfl⟩
theorem Rows.ldaAbs (addr : Word) : Rows.Statement (.ldaAbs addr) :=
  ⟨_, _, _, rfl, rfl, rfl, congrArg Instr.ldaAbs (word_hi8_lo8 addr)⟩
theorem Rows.ldaAbx (addr : Word) : Rows.Statement (.ldaAbx addr) :=
  ⟨_, _, _, rfl, rfl, rfl, congrArg Instr.ldaAbx (word_hi8_lo8 addr)⟩
theorem Rows.ldaAby (addr : Word) : Rows.Statement (.ldaAby addr) :=
  ⟨_, _, _, rfl, rfl, rfl, congrArg Instr.ldaAby (word_hi8_lo8 addr)⟩
theorem Rows.ldaIzx (z : Byte) : Rows.Statement (.ldaIzx z) := ⟨_, _, _, rfl, rfl, rfl, rfl⟩
theorem Rows.ldaIzy (z : Byte) : Rows.Statement (.ldaIzy z) := ⟨_, _, _, rfl, rfl, rfl, rfl⟩
theorem Rows.ldxImm (v : Byte) : Rows.Statement (.ldxImm v) := ⟨_, _, _, rfl, rfl, rfl, rfl⟩
theorem Rows.ldxZp (z : Byte) : Rows.Statement (.ldxZp z) := ⟨_, _, _, rfl, rfl, rfl, rfl⟩
theorem Rows.ldxZpy (z : Byte) : Rows.Statement (.ldxZpy z) := ⟨_, _, _, rfl, rfl, rfl, rfl⟩
theorem Rows.ldxAbs (addr : Word) : Rows.Statement (.ldxAbs addr) :=
  ⟨_, _, _, rfl, rfl, rfl, congrArg Instr.ldxAbs (word_hi8_lo8 addr)⟩
theorem Rows.ldxAby (addr : Word) : Rows.Statement (.ldxAby addr) :=
  ⟨_, _, _, rfl, rfl, rfl, congrArg Instr.ldxAby (word_hi8_lo8 addr)⟩
theorem Rows.ldyImm (v : Byte) : Rows.Statement (.ldyImm v) := ⟨_, _, _, rfl, rfl, rfl, rfl⟩
theorem Rows.ldyZp (z : Byte) : Rows.Statement (.ldyZp z) := ⟨_, _, _, rfl, rfl, rfl, rfl⟩
theorem Rows.ldyZpx (z : Byte) : Rows.Statement (.ldyZpx z) := ⟨_, _, _, rfl, rfl, rfl, rfl⟩
theorem Rows.ldyAbs (addr : Word) : Rows.Statement (.ldyAbs addr) :=
  ⟨_, _, _, rfl, rfl, rfl, congrArg Instr.ldyAbs (word_hi8_lo8 addr)⟩
theorem Rows.ldyAbx (addr : Word) : Rows.Statement (.ldyAbx addr) :=
  ⟨_, _, _, rfl, rfl, rfl, congrArg Instr.ldyAbx (word_hi8_lo8 addr)⟩
theorem Rows.staZp (z : Byte) : Rows.Statement (.staZp z) := ⟨_, _, _, rfl, rfl, rfl, rfl⟩
theorem Rows.staZpx (z : Byte) : Rows.Statement (.staZpx z) := ⟨_, _, _, rfl, rfl, rfl, rfl⟩
theorem Rows.staAbs (addr : Word) : Rows.Statement (.staAbs addr) :=
  ⟨_, _, _, rfl, rfl, rfl, congrArg Instr.staAbs (word_hi8_lo8 addr)⟩
theorem Rows.staAbx (addr : Word) : Rows.Statement (.staAbx addr) :=
  ⟨_, _, _, rfl, rfl, rfl, congrArg Instr.staAbx (word_hi8_lo8 addr)⟩
theorem Rows.staAby (addr : Word) : Rows.Statement (.staAby addr) :=
  ⟨_, _, _, rfl, rfl, rfl, congrArg Instr.staAby (word_hi8_lo8 addr)⟩
theorem Rows.staIzx (z : Byte) : Rows.Statement (.staIzx z) := ⟨_, _, _, rfl, rfl, rfl, rfl⟩
theorem Rows.staIzy (z : Byte) : Rows.Statement (.staIzy z) := ⟨_, _, _, rfl, rfl, rfl, rfl⟩
theorem Rows.stxZp (z : Byte) : Rows.Statement (.stxZp z) := ⟨_, _, _, rfl, rfl, rfl, rfl⟩
theorem Rows.stxZpy (z : Byte) : Rows.Statement (.stxZpy z) := ⟨_, _, _, rfl, rfl, rfl, rfl⟩
theorem Rows.stxAbs (addr : Word) : Rows.Statement (.stxAbs addr) :=
  ⟨_, _, _, rfl, rfl, rfl, congrArg Instr.stxAbs (word_hi8_lo8 addr)⟩
theorem Rows.styZp (z : Byte) : Rows.Statement (.styZp z) := ⟨_, _, _, rfl, rfl, rfl, rfl⟩
theorem Rows.styZpx (z : Byte) : Rows.Statement (.styZpx z) := ⟨_, _, _, rfl, rfl, rfl, rfl⟩
theorem Rows.styAbs (addr : Word) : Rows.Statement (.styAbs addr) :=
  ⟨_, _, _, rfl, rfl, rfl, congrArg Instr.styAbs (word_hi8_lo8 addr)⟩
theorem Rows.tax : Rows.Statement (.tax) := ⟨_, _, _, rfl, rfl, rfl, rfl⟩
theorem Rows.tay : Rows.Statement (.tay) := ⟨_, _, _, rfl, rfl, rfl, rfl⟩
theorem Rows.txa : Rows.Statement (.txa) := ⟨_, _, _, rfl, rfl, rfl, rfl⟩
theorem Rows.tya : Rows.Statement (.tya) := ⟨_, _, _, rfl, rfl, rfl, rfl⟩
theorem Rows.tsx : Rows.Statement (.tsx) := ⟨_, _, _, rfl, rfl, rfl, rfl⟩
theorem Rows.txs : Rows.Statement (.txs) := ⟨_, _, _, rfl, rfl, rfl, rfl⟩
theorem Rows.pha : Rows.Statement (.pha) := ⟨_, _, _, rfl, rfl, rfl, rfl⟩
theorem Rows.php : Rows.Statement (.php) := ⟨_, _, _, rfl, rfl, rfl, rfl⟩
theorem Rows.pla : Rows.Statement (.pla) := ⟨_, _, _, rfl, rfl, rfl, rfl⟩
theorem Rows.plp : Rows.Statement (.plp) := ⟨_, _, _, rfl, rfl, rfl, rfl⟩
theorem Rows.andImm (v : Byte) : Rows.Statement (.andImm v) := ⟨_, _, _, rfl, rfl, rfl, rfl⟩
theorem Rows.andZp (z : Byte) : Rows.Statement (.andZp z) := ⟨_, _, _, rfl, rfl, rfl, rfl⟩
theorem Rows.andZpx (z : Byte) : Rows.Statement (.andZpx z) := ⟨_, _, _, rfl, rfl, rfl, rfl⟩
theorem Rows.andAbs (addr : Word) : Rows.Statement (.andAbs addr) :=
  ⟨_, _, _, rfl, rfl, rfl, congrArg Instr.andAbs (word_hi8_lo8 addr)⟩
theorem Rows.andAbx (addr : Word) : Rows.Statement (.andAbx addr) :=
  ⟨_, _, _, rfl, rfl, rfl, congrArg Instr.andAbx (word_hi8_lo8 addr)⟩
theorem Rows.andAby (addr : Word) : Rows.Statement (.andAby addr) :=
  ⟨_, _, _, rfl, rfl, rfl, congrArg Instr.andAby (word_hi8_lo8 addr)⟩
theorem Rows.andIzx (z : Byte) : Rows.Statement (.andIzx z) := ⟨_, _, _, rfl, rfl, rfl, rfl⟩
theorem Rows.andIzy (z : Byte) : Rows.Statement (.andIzy z) := ⟨_, _, _, rfl, rfl, rfl, rfl⟩
theorem Rows.oraImm (v : Byte) : Rows.Statement (.oraImm v) := ⟨_, _, _, rfl, rfl, rfl, rfl⟩
theorem Rows.oraZp (z : Byte) : Rows.Statement (.oraZp z) := ⟨_, _, _, rfl, rfl, rfl, rfl⟩
theorem Rows.oraZpx (z : Byte) : Rows.Statement (.oraZpx z) := ⟨_, _, _, rfl, rfl, rfl, rfl⟩
theorem Rows.oraAbs (addr : Word) : Rows.Statement (.oraAbs addr) :=
  ⟨_, _, _, rfl, rfl, rfl, congrArg Instr.oraAbs (word_hi8_lo8 addr)⟩
theorem Rows.oraAbx (addr : Word) : Rows.Statement (.oraAbx addr) :=
  ⟨_, _, _, rfl, rfl, rfl, congrArg Instr.oraAbx (word_hi8_lo8 addr)⟩
theorem Rows.oraAby (addr : Word) : Rows.Statement (.oraAby addr) :=
  ⟨_, _, _, rfl, rfl, rfl, congrArg Instr.oraAby (word_hi8_lo8 addr)⟩
theorem Rows.oraIzx (z : Byte) : Rows.Statement (.oraIzx z) := ⟨_, _, _, rfl, rfl, rfl, rfl⟩
theorem Rows.oraIzy (z : Byte) : Rows.Statement (.oraIzy z) := ⟨_, _, _, rfl, rfl, rfl, rfl⟩
theorem Rows.eorImm (v : Byte) : Rows.Statement (.eorImm v) := ⟨_, _, _, rfl, rfl, rfl, rfl⟩
theorem Rows.eorZp (z : Byte) : Rows.Statement (.eorZp z) := ⟨_, _, _, rfl, rfl, rfl, rfl⟩
theorem Rows.eorZpx (z : Byte) : Rows.Statement (.eorZpx z) := ⟨_, _, _, rfl, rfl, rfl, rfl⟩
theorem Rows.eorAbs (addr : Word) : Rows.Statement (.eorAbs addr) :=
  ⟨_, _, _, rfl, rfl, rfl, congrArg Instr.eorAbs (word_hi8_lo8 addr)⟩
theorem Rows.eorAbx (addr : Word) : Rows.Statement (.eorAbx addr) :=
  ⟨_, _, _, rfl, rfl, rfl, congrArg Instr.eorAbx (word_hi8_lo8 addr)⟩
theorem Rows.eorAby (addr : Word) : Rows.Statement (.eorAby addr) :=
  ⟨_, _, _, rfl, rfl, rfl, congrArg Instr.eorAby (word_hi8_lo8 addr)⟩
theorem Rows.eorIzx (z : Byte) : Rows.Statement (.eorIzx z) := ⟨_, _, _, rfl, rfl, rfl, rfl⟩
theorem Rows.eorIzy (z : Byte) : Rows.Statement (.eorIzy z) := ⟨_, _, _, rfl, rfl, rfl, rfl⟩
theorem Rows.bitZp (z : Byte) : Rows.Statement (.bitZp z) := ⟨_, _, _, rfl, rfl, rfl, rfl⟩
theorem Rows.bitAbs (addr : Word) : Rows.Statement (.bitAbs addr) :=
  ⟨_, _, _, rfl, rfl, rfl, congrArg Instr.bitAbs (word_hi8_lo8 addr)⟩
theorem Rows.adcImm (v : Byte) : Rows.Statement (.adcImm v) := ⟨_, _, _, rfl, rfl, rfl, rfl⟩
theorem Rows.adcZp (z : Byte) : Rows.Statement (.adcZp z) := ⟨_, _, _, rfl, rfl, rfl, rfl⟩
theorem Rows.adcZpx (z : Byte) : Rows.Statement (.adcZpx z) := ⟨_, _, _, rfl, rfl, rfl, rfl⟩
theorem Rows.adcAbs (addr : Word) : Rows.Statement (.adcAbs addr) :=
  ⟨_, _, _, rfl, rfl, rfl, congrArg Instr.adcAbs (word_hi8_lo8 addr)⟩
theorem Rows.adcAbx (addr : Word) : Rows.Statement (.adcAbx addr) :=
  ⟨_, _, _, rfl, rfl, rfl, congrArg Instr.adcAbx (word_hi8_lo8 addr)⟩
theorem Rows.adcAby (addr : Word) : Rows.Statement (.adcAby addr) :=
  ⟨_, _, _, rfl, rfl, rfl, congrArg Instr.adcAby (word_hi8_lo8 addr)⟩
theorem Rows.adcIzx (z : Byte) : Rows.Statement (.adcIzx z) := ⟨_, _, _, rfl, rfl, rfl, rfl⟩
theorem Rows.adcIzy (z : Byte) : Rows.Statement (.adcIzy z) := ⟨_, _, _, rfl, rfl, rfl, rfl⟩
theorem Rows.sbcImm (v : Byte) : Rows.Statement (.sbcImm v) := ⟨_, _, _, rfl, rfl, rfl, rfl⟩
theorem Rows.sbcZp (z : Byte) : Rows.Statement (.sbcZp z) := ⟨_, _, _, rfl, rfl, rfl, rfl⟩
theorem Rows.sbcZpx (z : Byte) : Rows.Statement (.sbcZpx z) := ⟨_, _, _, rfl, rfl, rfl, rfl⟩
theorem Rows.sbcAbs (addr : Word) : Rows.Statement (.sbcAbs addr) :=
  ⟨_, _, _, rfl, rfl, rfl, congrArg Instr.sbcAbs (word_hi8_lo8 addr)⟩
theorem Rows.sbcAbx (addr : Word) : Rows.Statement (.sbcAbx addr) :=
  ⟨_, _, _, rfl, rfl, rfl, congrArg Instr.sbcAbx (word_hi8_lo8 addr)⟩
theorem Rows.sbcAby (addr : Word) : Rows.Statement (.sbcAby addr) :=
  ⟨_, _, _, rfl, rfl, rfl, congrArg Instr.sbcAby (word_hi8_lo8 addr)⟩
theorem Rows.sbcIzx (z : Byte) : Rows.Statement (.sbcIzx z) := ⟨_, _, _, rfl, rfl, rfl, rfl⟩
theorem Rows.sbcIzy (z : Byte) : Rows.Statement (.sbcIzy z) := ⟨_, _, _, rfl, rfl, rfl, rfl⟩
theorem Rows.cmpImm (v : Byte) : Rows.Statement (.cmpImm v) := ⟨_, _, _, rfl, rfl, rfl, rfl⟩
theorem Rows.cmpZp (z : Byte) : Rows.Statement (.cmpZp z) := ⟨_, _, _, rfl, rfl, rfl, rfl⟩
theorem Rows.cmpZpx (z : Byte) : Rows.Statement (.cmpZpx z) := ⟨_, _, _, rfl, rfl, rfl, rfl⟩
theorem Rows.cmpAbs (addr : Word) : Rows.Statement (.cmpAbs addr) :=
  ⟨_, _, _, rfl, rfl, rfl, congrArg Instr.cmpAbs (word_hi8_lo8 addr)⟩
theorem Rows.cmpAbx (addr : Word) : Rows.Statement (.cmpAbx addr) :=
  ⟨_, _, _, rfl, rfl, rfl, congrArg Instr.cmpAbx (word_hi8_lo8 addr)⟩
theorem Rows.cmpAby (addr : Word) : Rows.Statement (.cmpAby addr) :=
  ⟨_, _, _, rfl, rfl, rfl, congrArg Instr.cmpAby (word_hi8_lo8 addr)⟩
theorem Rows.cmpIzx (z : Byte) : Rows.Statement (.cmpIzx z) := ⟨_, _, _, rfl, rfl, rfl, rfl⟩
theorem Rows.cmpIzy (z : Byte) : Rows.Statement (.cmpIzy z) := ⟨_, _, _, rfl, rfl, rfl, rfl⟩
theorem Rows.cpxImm (v : Byte) : Rows.Statement (.cpxImm v) := ⟨_, _, _, rfl, rfl, rfl, rfl⟩
theorem Rows.cpxZp (z : Byte) : Rows.Statement (.cpxZp z) := ⟨_, _, _, rfl, rfl, rfl, rfl⟩
theorem Rows.cpxAbs (addr : Word) : Rows.Statement (.cpxAbs addr) :=
  ⟨_, _, _, rfl, rfl, rfl, congrArg Instr.cpxAbs (word_hi8_lo8 addr)⟩
theorem Rows.cpyImm (v : Byte) : Rows.Statement (.cpyImm v) := ⟨_, _, _, rfl, rfl, rfl, rfl⟩
theorem Rows.cpyZp (z : Byte) : Rows.Statement (.cpyZp z) := ⟨_, _, _, rfl, rfl, rfl, rfl⟩
theorem Rows.cpyAbs (addr : Word) : Rows.Statement (.cpyAbs addr) :=
  ⟨_, _, _, rfl, rfl, rfl, congrArg Instr.cpyAbs (word_hi8_lo8 addr)⟩
theorem Rows.incZp (z : Byte) : Rows.Statement (.incZp z) := ⟨_, _, _, rfl, rfl, rfl, rfl⟩
theorem Rows.incZpx (z : Byte) : Rows.Statement (.incZpx z) := ⟨_, _, _, rfl, rfl, rfl, rfl⟩
theorem Rows.incAbs (addr : Word) : Rows.Statement (.incAbs addr) :=
  ⟨_, _, _, rfl, rfl, rfl, congrArg Instr.incAbs (word_hi8_lo8 addr)⟩
theorem Rows.incAbx (addr : Word) : Rows.Statement (.incAbx addr) :=
  ⟨_, _, _, rfl, rfl, rfl, congrArg Instr.incAbx (word_hi8_lo8 addr)⟩
theorem Rows.decZp (z : Byte) : Rows.Statement (.decZp z) := ⟨_, _, _, rfl, rfl, rfl, rfl⟩
theorem Rows.decZpx (z : Byte) : Rows.Statement (.decZpx z) := ⟨_, _, _, rfl, rfl, rfl, rfl⟩
theorem Rows.decAbs (addr : Word) : Rows.Statement (.decAbs addr) :=
  ⟨_, _, _, rfl, rfl, rfl, congrArg Instr.decAbs (word_hi8_lo8 addr)⟩
theorem Rows.decAbx (addr : Word) : Rows.Statement (.decAbx addr) :=
  ⟨_, _, _, rfl, rfl, rfl, congrArg Instr.decAbx (word_hi8_lo8 addr)⟩
theorem Rows.inx : Rows.Statement (.inx) := ⟨_, _, _, rfl, rfl, rfl, rfl⟩
theorem Rows.iny : Rows.Statement (.iny) := ⟨_, _, _, rfl, rfl, rfl, rfl⟩
theorem Rows.dex : Rows.Statement (.dex) := ⟨_, _, _, rfl, rfl, rfl, rfl⟩
theorem Rows.dey : Rows.Statement (.dey) := ⟨_, _, _, rfl, rfl, rfl, rfl⟩
theorem Rows.aslAcc : Rows.Statement (.aslAcc) := ⟨_, _, _, rfl, rfl, rfl, rfl⟩
theorem Rows.aslZp (z : Byte) : Rows.Statement (.aslZp z) := ⟨_, _, _, rfl, rfl, rfl, rfl⟩
theorem Rows.aslZpx (z : Byte) : Rows.Statement (.aslZpx z) := ⟨_, _, _, rfl, rfl, rfl, rfl⟩
theorem Rows.aslAbs (addr : Word) : Rows.Statement (.aslAbs addr) :=
  ⟨_, _, _, rfl, rfl, rfl, congrArg Instr.aslAbs (word_hi8_lo8 addr)⟩
theorem Rows.aslAbx (addr : Word) : Rows.Statement (.aslAbx addr) :=
  ⟨_, _, _, rfl, rfl, rfl, congrArg Instr.aslAbx (word_hi8_lo8 addr)⟩
theorem Rows.lsrAcc : Rows.Statement (.lsrAcc) := ⟨_, _, _, rfl, rfl, rfl, rfl⟩
theorem Rows.lsrZp (z : Byte) : Rows.Statement (.lsrZp z) := ⟨_, _, _, rfl, rfl, rfl, rfl⟩
theorem Rows.lsrZpx (z : Byte) : Rows.Statement (.lsrZpx z) := ⟨_, _, _, rfl, rfl, rfl, rfl⟩
theorem Rows.lsrAbs (addr : Word) : Rows.Statement (.lsrAbs addr) :=
  ⟨_, _, _, rfl, rfl, rfl, congrArg Instr.lsrAbs (word_hi8_lo8 addr)⟩
theorem Rows.lsrAbx (addr : Word) : Rows.Statement (.lsrAbx addr) :=
  ⟨_, _, _, rfl, rfl, rfl, congrArg Instr.lsrAbx (word_hi8_lo8 addr)⟩
theorem Rows.rolAcc : Rows.Statement (.rolAcc) := ⟨_, _, _, rfl, rfl, rfl, rfl⟩
theorem Rows.rolZp (z : Byte) : Rows.Statement (.rolZp z) := ⟨_, _, _, rfl, rfl, rfl, rfl⟩
theorem Rows.rolZpx (z : Byte) : Rows.Statement (.rolZpx z) := ⟨_, _, _, rfl, rfl, rfl, rfl⟩
theorem Rows.rolAbs (addr : Word) : Rows.Statement (.rolAbs addr) :=
  ⟨_, _, _, rfl, rfl, rfl, congrArg Instr.rolAbs (word_hi8_lo8 addr)⟩
theorem Rows.rolAbx (addr : Word) : Rows.Statement (.rolAbx addr) :=
  ⟨_, _, _, rfl, rfl, rfl, congrArg Instr.rolAbx (word_hi8_lo8 addr)⟩
theorem Rows.rorAcc : Rows.Statement (.rorAcc) := ⟨_, _, _, rfl, rfl, rfl, rfl⟩
theorem Rows.rorZp (z : Byte) : Rows.Statement (.rorZp z) := ⟨_, _, _, rfl, rfl, rfl, rfl⟩
theorem Rows.rorZpx (z : Byte) : Rows.Statement (.rorZpx z) := ⟨_, _, _, rfl, rfl, rfl, rfl⟩
theorem Rows.rorAbs (addr : Word) : Rows.Statement (.rorAbs addr) :=
  ⟨_, _, _, rfl, rfl, rfl, congrArg Instr.rorAbs (word_hi8_lo8 addr)⟩
theorem Rows.rorAbx (addr : Word) : Rows.Statement (.rorAbx addr) :=
  ⟨_, _, _, rfl, rfl, rfl, congrArg Instr.rorAbx (word_hi8_lo8 addr)⟩
theorem Rows.jmpAbs (addr : Word) : Rows.Statement (.jmpAbs addr) :=
  ⟨_, _, _, rfl, rfl, rfl, congrArg Instr.jmpAbs (word_hi8_lo8 addr)⟩
theorem Rows.jmpInd (ptr : Word) : Rows.Statement (.jmpInd ptr) :=
  ⟨_, _, _, rfl, rfl, rfl, congrArg Instr.jmpInd (word_hi8_lo8 ptr)⟩
theorem Rows.jsr (addr : Word) : Rows.Statement (.jsr addr) :=
  ⟨_, _, _, rfl, rfl, rfl, congrArg Instr.jsr (word_hi8_lo8 addr)⟩
theorem Rows.rts : Rows.Statement (.rts) := ⟨_, _, _, rfl, rfl, rfl, rfl⟩
theorem Rows.bcc (off : Byte) : Rows.Statement (.bcc off) := ⟨_, _, _, rfl, rfl, rfl, rfl⟩
theorem Rows.bcs (off : Byte) : Rows.Statement (.bcs off) := ⟨_, _, _, rfl, rfl, rfl, rfl⟩
theorem Rows.beq (off : Byte) : Rows.Statement (.beq off) := ⟨_, _, _, rfl, rfl, rfl, rfl⟩
theorem Rows.bmi (off : Byte) : Rows.Statement (.bmi off) := ⟨_, _, _, rfl, rfl, rfl, rfl⟩
theorem Rows.bne (off : Byte) : Rows.Statement (.bne off) := ⟨_, _, _, rfl, rfl, rfl, rfl⟩
theorem Rows.bpl (off : Byte) : Rows.Statement (.bpl off) := ⟨_, _, _, rfl, rfl, rfl, rfl⟩
theorem Rows.bvc (off : Byte) : Rows.Statement (.bvc off) := ⟨_, _, _, rfl, rfl, rfl, rfl⟩
theorem Rows.bvs (off : Byte) : Rows.Statement (.bvs off) := ⟨_, _, _, rfl, rfl, rfl, rfl⟩
theorem Rows.clc : Rows.Statement (.clc) := ⟨_, _, _, rfl, rfl, rfl, rfl⟩
theorem Rows.cld : Rows.Statement (.cld) := ⟨_, _, _, rfl, rfl, rfl, rfl⟩
theorem Rows.cli : Rows.Statement (.cli) := ⟨_, _, _, rfl, rfl, rfl, rfl⟩
theorem Rows.clv : Rows.Statement (.clv) := ⟨_, _, _, rfl, rfl, rfl, rfl⟩
theorem Rows.sec : Rows.Statement (.sec) := ⟨_, _, _, rfl, rfl, rfl, rfl⟩
theorem Rows.sed : Rows.Statement (.sed) := ⟨_, _, _, rfl, rfl, rfl, rfl⟩
theorem Rows.sei : Rows.Statement (.sei) := ⟨_, _, _, rfl, rfl, rfl, rfl⟩
theorem Rows.nop : Rows.Statement (.nop) := ⟨_, _, _, rfl, rfl, rfl, rfl⟩
theorem Rows.brk : Rows.Statement (.brk) := ⟨_, _, _, rfl, rfl, rfl, rfl⟩
theorem Rows.rti : Rows.Statement (.rti) := ⟨_, _, _, rfl, rfl, rfl, rfl⟩
theorem Rows.skip04 : Rows.Statement (.skip04) := ⟨_, _, _, rfl, rfl, rfl, rfl⟩
theorem Rows.skip0C : Rows.Statement (.skip0C) := ⟨_, _, _, rfl, rfl, rfl, rfl⟩
theorem Rows.skip14 : Rows.Statement (.skip14) := ⟨_, _, _, rfl, rfl, rfl, rfl⟩
theorem Rows.skip1A : Rows.Statement (.skip1A) := ⟨_, _, _, rfl, rfl, rfl, rfl⟩
theorem Rows.skip1C : Rows.Statement (.skip1C) := ⟨_, _, _, rfl, rfl, rfl, rfl⟩
theorem Rows.skip34 : Rows.Statement (.skip34) := ⟨_, _, _, rfl, rfl, rfl, rfl⟩
theorem Rows.skip3A : Rows.Statement (.skip3A) := ⟨_, _, _, rfl, rfl, rfl, rfl⟩
theorem Rows.skip3C : Rows.Statement (.skip3C) := ⟨_, _, _, rfl, rfl, rfl, rfl⟩
theorem Rows.skip44 : Rows.Statement (.skip44) := ⟨_, _, _, rfl, rfl, rfl, rfl⟩
theorem Rows.skip54 : Rows.Statement (.skip54) := ⟨_, _, _, rfl, rfl, rfl, rfl⟩
theorem Rows.skip5A : Rows.Statement (.skip5A) := ⟨_, _, _, rfl, rfl, rfl, rfl⟩
theorem Rows.skip5C : Rows.Statement (.skip5C) := ⟨_, _, _, rfl, rfl, rfl, rfl⟩
theorem Rows.skip64 : Rows.Statement (.skip64) := ⟨_, _, _, rfl, rfl, rfl, rfl⟩
theorem Rows.skip74 : Rows.Statement (.skip74) := ⟨_, _, _, rfl, rfl, rfl, rfl⟩
theorem Rows.skip7A : Rows.Statement (.skip7A) := ⟨_, _, _, rfl, rfl, rfl, rfl⟩
theorem Rows.skip7C : Rows.Statement (.skip7C) := ⟨_, _, _, rfl, rfl, rfl, rfl⟩
theorem Rows.skip80 : Rows.Statement (.skip80) := ⟨_, _, _, rfl, rfl, rfl, rfl⟩
theorem Rows.skip82 : Rows.Statement (.skip82) := ⟨_, _, _, rfl, rfl, rfl, rfl⟩
theorem Rows.skip89 : Rows.Statement (.skip89) := ⟨_, _, _, rfl, rfl, rfl, rfl⟩
theorem Rows.skipC2 : Rows.Statement (.skipC2) := ⟨_, _, _, rfl, rfl, rfl, rfl⟩
theorem Rows.skipD4 : Rows.Statement (.skipD4) := ⟨_, _, _, rfl, rfl, rfl, rfl⟩
theorem Rows.skipDA : Rows.Statement (.skipDA) := ⟨_, _, _, rfl, rfl, rfl, rfl⟩
theorem Rows.skipDC : Rows.Statement (.skipDC) := ⟨_, _, _, rfl, rfl, rfl, rfl⟩
theorem Rows.skipE2 : Rows.Statement (.skipE2) := ⟨_, _, _, rfl, rfl, rfl, rfl⟩
theorem Rows.skipF4 : Rows.Statement (.skipF4) := ⟨_, _, _, rfl, rfl, rfl, rfl⟩
theorem Rows.skipFA : Rows.Statement (.skipFA) := ⟨_, _, _, rfl, rfl, rfl, rfl⟩
theorem Rows.skipFC : Rows.Statement (.skipFC) := ⟨_, _, _, rfl, rfl, rfl, rfl⟩

end Sys2Proof.Laws
end

