-- ==== Sys2Proof/Laws/Ppu.lean ====
section
/-! SUPPORT. Laws of the PPU tick: where the counters go, and what an event can change. -/

namespace Sys2Proof.Machine

/-- The three cases of the counter advance (R321): within a line, to the next line, to the next frame. -/
theorem ppuAdvance_within {s : State} (h : s.cycle + 1 ≠ 341) : ppuAdvance s = { s with cycle := s.cycle + 1 } := if_neg h

theorem ppuAdvance_line {s : State} (h : s.cycle + 1 = 341) (h' : s.scanline + 1 ≠ 261) :
    ppuAdvance s = { s with cycle := 0, scanline := s.scanline + 1 } := (if_pos h).trans (if_neg h')

theorem ppuAdvance_frame {s : State} (h : s.cycle + 1 = 341) (h' : s.scanline + 1 = 261) :
    ppuAdvance s = { s with cycle := 0, scanline := -1, frameCount := s.frameCount + 1 } := (if_pos h).trans (if_pos h')

/-- The counters move by one position and stay in range (R321). -/
theorem ppuAdvance_position {s : State} (hc : s.cycle < 341) (hl : -1 ≤ s.scanline) (hh : s.scanline ≤ 260) :
    (ppuAdvance s).cycle < 341 ∧ -1 ≤ (ppuAdvance s).scanline ∧ (ppuAdvance s).scanline ≤ 260 ∧
    ((ppuAdvance s).frameCount * 89342 : Int) + ((ppuAdvance s).scanline + 1) * 341 + (ppuAdvance s).cycle =
      (s.frameCount * 89342 : Int) + (s.scanline + 1) * 341 + s.cycle + 1 := by
  by_cases h : s.cycle + 1 = 341
  · by_cases h' : s.scanline + 1 = 261
    · rw [ppuAdvance_frame h h']
      refine ⟨Nat.zero_lt_succ 340, le_refl (-1), (by norm_num : (-1 : Int) ≤ 260), ?_⟩
      simp only [Nat.cast_add, Nat.cast_one, Nat.cast_zero]
      omega
    · rw [ppuAdvance_line h h']
      refine ⟨Nat.zero_lt_succ 340, ?_, ?_, ?_⟩ <;> simp only [Nat.cast_zero] <;> omega
  · rw [ppuAdvance_within h]
    refine ⟨?_, hl, hh, ?_⟩ <;> simp only [Nat.cast_add, Nat.cast_one] <;> omega

/-- The counter advance changes nothing but the counters. -/
theorem ppuAdvance_eq (s : State) : ppuAdvance s =
    { s with cycle := (ppuAdvance s).cycle, scanline := (ppuAdvance s).scanline, frameCount := (ppuAdvance s).frameCount } := by
  unfold ppuAdvance
  split
  · split <;> rfl
  · rfl

theorem eventAt_pos {s : State} {pos : Int × Nat} (h : ppuPosition s = pos) (f : State → State) : eventAt pos f s = f s :=
  if_pos h

theorem eventAt_neg {s : State} {pos : Int × Nat} (h : ppuPosition s ≠ pos) (f : State → State) : eventAt pos f s = s :=
  if_neg h

theorem ppuPosition_vblankSet (s : State) : ppuPosition (vblankSet s) = ppuPosition s := by
  cases hs : s.suppressVbl <;> simp [vblankSet, hs, setStatus, ppuPosition]

/-- What the events of a tick do: nothing, or one of the three events (R322 to R326). -/
theorem ppuEvents_cases (s : State) : (ppuPosition s ≠ (240, 1) ∧ ppuPosition s ≠ (260, 1) ∧ ppuPosition s ≠ (-1, 1) ∧ ppuEvents s = s) ∨
    (ppuPosition s = (240, 1) ∧ ppuEvents s = vblankSet s) ∨
    (ppuPosition s = (260, 1) ∧ ppuEvents s = vblankClear s) ∨ (ppuPosition s = (-1, 1) ∧ ppuEvents s = spriteClear s) := by
  have latch : ∀ u : State, eventAt config.scrollLatchAt scrollLatch u = u := fun u => ite_self u
  unfold ppuEvents renderingHooks
  rw [latch]
  by_cases h1 : ppuPosition s = (240, 1)
  · refine .inr (.inl ⟨h1, ?_⟩)
    have hp : ppuPosition (vblankSet s) = (240, 1) := (ppuPosition_vblankSet s).trans h1
    rw [eventAt_pos (pos := config.vblSetAt) h1, eventAt_neg (pos := config.vblClearAt) (by rw [hp]; decide),
      eventAt_neg (pos := config.sprClearAt) (by rw [hp]; decide)]
  rw [eventAt_neg (pos := config.vblSetAt) h1]
  by_cases h2 : ppuPosition s = (260, 1)
  · refine .inr (.inr (.inl ⟨h2, ?_⟩))
    have hp : ppuPosition (vblankClear s) = (260, 1) := h2
    rw [eventAt_pos (pos := config.vblClearAt) h2, eventAt_neg (pos := config.sprClearAt) (by rw [hp]; decide)]
  rw [eventAt_neg (pos := config.vblClearAt) h2]
  by_cases h3 : ppuPosition s = (-1, 1)
  · exact .inr (.inr (.inr ⟨h3, eventAt_pos (pos := config.sprClearAt) h3 _⟩))
  · exact .inl ⟨h1, h2, h3, eventAt_neg (pos := config.sprClearAt) h3 _⟩

/-- What the events of a tick cannot change: CPU registers, the counters, the fault record. -/
theorem ppuEvents_frame (s : State) : (ppuEvents s).a = s.a ∧ (ppuEvents s).x = s.x ∧ (ppuEvents s).y = s.y ∧
    (ppuEvents s).pc = s.pc ∧ (ppuEvents s).sp = s.sp ∧ (ppuEvents s).p = s.p ∧ (ppuEvents s).cycleCount = s.cycleCount ∧
    (ppuEvents s).fault = s.fault ∧ (ppuEvents s).w = s.w ∧ (ppuEvents s).cycle = s.cycle ∧
    (ppuEvents s).scanline = s.scanline ∧ (ppuEvents s).frameCount = s.frameCount := by
  rcases ppuEvents_cases s with ⟨-, -, -, e⟩ | ⟨-, e⟩ | ⟨-, e⟩ | ⟨-, e⟩ <;> rw [e]
  · simp
  · cases hs : s.suppressVbl <;> simp [vblankSet, hs, setStatus]
  · simp [vblankClear, clearStatus, setStatus]
  · simp [spriteClear, clearStatus, setStatus]

/-- A tick keeps the byte array canonical. -/
theorem wf_ppuTick {s : State} (h : s.mem.wf) : (ppuTick s).mem.wf := by
  have ha : (ppuAdvance s).mem = s.mem := by rw [ppuAdvance_eq]
  have h' : (ppuAdvance s).mem.wf := ha ▸ h
  unfold ppuTick
  rcases ppuEvents_cases (ppuAdvance s) with ⟨-, -, -, e⟩ | ⟨-, e⟩ | ⟨-, e⟩ | ⟨-, e⟩ <;> rw [e]
  · exact h'
  · unfold vblankSet
    split
    · exact h'
    · exact wf_setStatus h' _
  · exact wf_setStatus h' _
  · exact wf_setStatus (wf_setStatus h' _) _

end Sys2Proof.Machine
end

