-- ==== Sys2Proof/Laws/Reach.lean ====
section
/-! SUPPORT. What a CPU step can do, said once: it changes CPU registers and makes bus accesses, nothing else. Every invariant
over memory and the PPU then needs three small cases. -/

namespace Sys2Proof.Machine

/-- `t` is reached from `s` by changes of the CPU registers (with `cycleCount`) and by bus reads and writes. -/
inductive BusReach : State → State → Prop where
  | refl (s : State) : BusReach s s
  | regs {s t : State} (h : BusReach s t) (a x y : Byte) (pc : Word) (sp p : Byte) (n : Nat) :
      BusReach s { t with a := a, x := x, y := y, pc := pc, sp := sp, p := p, cycleCount := n }
  | read {s t : State} (h : BusReach s t) (addr : Word) : BusReach s (memRead addr t).2
  | write {s t : State} (h : BusReach s t) (addr : Word) (v : Byte) : BusReach s (memWrite addr v t)

namespace BusReach

theorem trans {s t u : State} (h : BusReach s t) (h' : BusReach t u) : BusReach s u := by
  induction h' with
  | refl => exact h
  | regs _ a x y pc sp p n ih => exact ih.regs a x y pc sp p n
  | read _ addr ih => exact ih.read addr
  | write _ addr v ih => exact ih.write addr v

theorem withA {s t : State} (h : BusReach s t) (v : Byte) : BusReach s (t.withA v) := h.regs v _ _ _ _ _ _
theorem withX {s t : State} (h : BusReach s t) (v : Byte) : BusReach s (t.withX v) := h.regs _ v _ _ _ _ _
theorem withY {s t : State} (h : BusReach s t) (v : Byte) : BusReach s (t.withY v) := h.regs _ _ v _ _ _ _
theorem withPc {s t : State} (h : BusReach s t) (v : Word) : BusReach s (t.withPc v) := h.regs _ _ _ v _ _ _
theorem withSp {s t : State} (h : BusReach s t) (v : Byte) : BusReach s (t.withSp v) := h.regs _ _ _ _ v _ _
theorem withP {s t : State} (h : BusReach s t) (v : Byte) : BusReach s (t.withP v) := h.regs _ _ _ _ _ v _
theorem withCycles {s t : State} (h : BusReach s t) (n : Nat) : BusReach s (t.withCycles n) := h.regs _ _ _ _ _ _ n

theorem push {s t : State} (h : BusReach s t) (v : Byte) : BusReach s (push v t) := (h.write _ v).withSp _
theorem pull {s t : State} (h : BusReach s t) : BusReach s (pull t).2 := (h.withSp _).read _
theorem pushWord {s t : State} (h : BusReach s t) (v : Word) : BusReach s (pushWord v t) := (h.push _).push _
theorem pullWord {s t : State} (h : BusReach s t) : BusReach s (pullWord t).2 := h.pull.pull
theorem read16 {s t : State} (h : BusReach s t) (addr : Word) : BusReach s (read16 addr t).2 := (h.read _).read _

theorem interruptEntry {s t : State} (h : BusReach s t) (ret : Word) (status : Byte) (vector : Word) :
    BusReach s (interruptEntry ret status vector t) :=
  (((((h.pushWord ret).push status).withP _).read16 vector).withPc _).withCycles 7

theorem interruptReturn {s t : State} (h : BusReach s t) : BusReach s (interruptReturn t) :=
  ((h.pull.withP _).pullWord).withPc _

theorem locate {s t : State} (h : BusReach s t) (m : MemMode) : BusReach s (locate m t).state := by
  rw [locate_state]
  exact h

theorem readSource {s t : State} (h : BusReach s t) (src : Source) : BusReach s (readSource src t).state := by
  cases src with
  | imm v => exact h
  | mem m => exact (h.locate m).read _

theorem fetchByte {s t : State} (h : BusReach s t) : BusReach s (fetchByte t).2 := (h.read _).withPc _

end BusReach

/-- `f` only changes CPU registers. -/
def RegsOnly (f : Byte → State → State) : Prop := ∀ v s t, BusReach s t → BusReach s (f v t)

theorem busReach_withSource {cycles : Nat} {src : Source} {f : Byte → State → State} (hf : RegsOnly f) {s t : State}
    (h : withSource cycles src f s = .next t) : BusReach s t := by
  cases h
  exact (hf _ _ _ ((BusReach.refl s).readSource src)).withCycles _

theorem busReach_storeAt {cycles : Nat} {m : MemMode} {v : Byte} {s t : State} (h : storeAt cycles m v s = .next t) :
    BusReach s t := by
  cases h
  exact (((BusReach.refl s).locate m).write _ _).withCycles _

theorem busReach_modifyAt {cycles : Nat} {m : MemMode} {f : Byte → Byte → Alu} {s t : State}
    (h : modifyAt cycles m f s = .next t) : BusReach s t := by
  cases h
  exact (((((BusReach.refl s).locate m).read _).write _ _).withP _).withCycles _

theorem busReach_modifyA {cycles : Nat} {f : Byte → Byte → Alu} {s t : State} (h : modifyA cycles f s = .next t) : BusReach s t := by
  cases h
  exact (((BusReach.refl s).withA _).withP _).withCycles _

theorem busReach_branch {cycles : Nat} {cond : Bool} {off : Byte} {s t : State} (h : branch cycles cond off s = .next t) : BusReach s t := by
  unfold branch at h
  cases cond <;> cases h
  · exact (BusReach.refl s).withCycles _
  · exact ((BusReach.refl s).withPc _).withCycles _

theorem busReach_skipBytes {length cycles : Nat} {s t : State} (h : skipBytes length cycles s = .next t) : BusReach s t := by
  cases h
  exact ((BusReach.refl s).withPc _).withCycles _

theorem regsOnly_writeA : RegsOnly writeA := fun _ _ _ h => (h.withA _).withP _
theorem regsOnly_writeX : RegsOnly writeX := fun _ _ _ h => (h.withX _).withP _
theorem regsOnly_writeY : RegsOnly writeY := fun _ _ _ h => (h.withY _).withP _
theorem regsOnly_andA : RegsOnly andA := fun _ _ _ h => (h.withA _).withP _
theorem regsOnly_oraA : RegsOnly oraA := fun _ _ _ h => (h.withA _).withP _
theorem regsOnly_eorA : RegsOnly eorA := fun _ _ _ h => (h.withA _).withP _
theorem regsOnly_bitTest : RegsOnly bitTest := fun _ _ _ h => h.withP _
theorem regsOnly_adcA : RegsOnly adcA := fun _ _ _ h => (h.withA _).withP _
theorem regsOnly_sbcA : RegsOnly sbcA := fun _ _ _ h => (h.withA _).withP _
theorem regsOnly_cmpA : RegsOnly cmpA := fun _ _ _ h => h.withP _
theorem regsOnly_cmpX : RegsOnly cmpX := fun _ _ _ h => h.withP _
theorem regsOnly_cmpY : RegsOnly cmpY := fun _ _ _ h => h.withP _

/-- Every instruction answers a next state. -/
theorem exec_answers (i : Instr) (s : State) : ∃ t, exec i s = .next t := by
  cases i <;>
    first
    | exact ⟨_, rfl⟩
    | (simp only [exec, execBcc, execBcs, execBeq, execBmi, execBne, execBpl, execBvc, execBvs, branch]
       split <;> exact ⟨_, rfl⟩)

/-- Every instruction only changes CPU registers and makes bus accesses. -/
theorem busReach_exec {i : Instr} {s t : State} (h : exec i s = .next t) : BusReach s t := by
  cases i
  case ldaImm => exact busReach_withSource regsOnly_writeA h
  case ldaZp => exact busReach_withSource regsOnly_writeA h
  case ldaZpx => exact busReach_withSource regsOnly_writeA h
  case ldaAbs => exact busReach_withSource regsOnly_writeA h
  case ldaAbx => exact busReach_withSource regsOnly_writeA h
  case ldaAby => exact busReach_withSource regsOnly_writeA h
  case ldaIzx => exact busReach_withSource regsOnly_writeA h
  case ldaIzy => exact busReach_withSource regsOnly_writeA h
  case ldxImm => exact busReach_withSource regsOnly_writeX h
  case ldxZp => exact busReach_withSource regsOnly_writeX h
  case ldxZpy => exact busReach_withSource regsOnly_writeX h
  case ldxAbs => exact busReach_withSource regsOnly_writeX h
  case ldxAby => exact busReach_withSource regsOnly_writeX h
  case ldyImm => exact busReach_withSource regsOnly_writeY h
  case ldyZp => exact busReach_withSource regsOnly_writeY h
  case ldyZpx => exact busReach_withSource regsOnly_writeY h
  case ldyAbs => exact busReach_withSource regsOnly_writeY h
  case ldyAbx => exact busReach_withSource regsOnly_writeY h
  case staZp => exact busReach_storeAt h
  case staZpx => exact busReach_storeAt h
  case staAbs => exact busReach_storeAt h
  case staAbx => exact busReach_storeAt h
  case staAby => exact busReach_storeAt h
  case staIzx => exact busReach_storeAt h
  case staIzy => exact busReach_storeAt h
  case stxZp => exact busReach_storeAt h
  case stxZpy => exact busReach_storeAt h
  case stxAbs => exact busReach_storeAt h
  case styZp => exact busReach_storeAt h
  case styZpx => exact busReach_storeAt h
  case styAbs => exact busReach_storeAt h
  case andImm => exact busReach_withSource regsOnly_andA h
  case andZp => exact busReach_withSource regsOnly_andA h
  case andZpx => exact busReach_withSource regsOnly_andA h
  case andAbs => exact busReach_withSource regsOnly_andA h
  case andAbx => exact busReach_withSource regsOnly_andA h
  case andAby => exact busReach_withSource regsOnly_andA h
  case andIzx => exact busReach_withSource regsOnly_andA h
  case andIzy => exact busReach_withSource regsOnly_andA h
  case oraImm => exact busReach_withSource regsOnly_oraA h
  case oraZp => exact busReach_withSource regsOnly_oraA h
  case oraZpx => exact busReach_withSource regsOnly_oraA h
  case oraAbs => exact busReach_withSource regsOnly_oraA h
  case oraAbx => exact busReach_withSource regsOnly_oraA h
  case oraAby => exact busReach_withSource regsOnly_oraA h
  case oraIzx => exact busReach_withSource regsOnly_oraA h
  case oraIzy => exact busReach_withSource regsOnly_oraA h
  case eorImm => exact busReach_withSource regsOnly_eorA h
  case eorZp => exact busReach_withSource regsOnly_eorA h
  case eorZpx => exact busReach_withSource regsOnly_eorA h
  case eorAbs => exact busReach_withSource regsOnly_eorA h
  case eorAbx => exact busReach_withSource regsOnly_eorA h
  case eorAby => exact busReach_withSource regsOnly_eorA h
  case eorIzx => exact busReach_withSource regsOnly_eorA h
  case eorIzy => exact busReach_withSource regsOnly_eorA h
  case bitZp => exact busReach_withSource regsOnly_bitTest h
  case bitAbs => exact busReach_withSource regsOnly_bitTest h
  case adcImm => exact busReach_withSource regsOnly_adcA h
  case adcZp => exact busReach_withSource regsOnly_adcA h
  case adcZpx => exact busReach_withSource regsOnly_adcA h
  case adcAbs => exact busReach_withSource regsOnly_adcA h
  case adcAbx => exact busReach_withSource regsOnly_adcA h
  case adcAby => exact busReach_withSource regsOnly_adcA h
  case adcIzx => exact busReach_withSource regsOnly_adcA h
  case adcIzy => exact busReach_withSource regsOnly_adcA h
  case sbcImm => exact busReach_withSource regsOnly_sbcA h
  case sbcZp => exact busReach_withSource regsOnly_sbcA h
  case sbcZpx => exact busReach_withSource regsOnly_sbcA h
  case sbcAbs => exact busReach_withSource regsOnly_sbcA h
  case sbcAbx => exact busReach_withSource regsOnly_sbcA h
  case sbcAby => exact busReach_withSource regsOnly_sbcA h
  case sbcIzx => exact busReach_withSource regsOnly_sbcA h
  case sbcIzy => exact busReach_withSource regsOnly_sbcA h
  case cmpImm => exact busReach_withSource regsOnly_cmpA h
  case cmpZp => exact busReach_withSource regsOnly_cmpA h
  case cmpZpx => exact busReach_withSource regsOnly_cmpA h
  case cmpAbs => exact busReach_withSource regsOnly_cmpA h
  case cmpAbx => exact busReach_withSource regsOnly_cmpA h
  case cmpAby => exact busReach_withSource regsOnly_cmpA h
  case cmpIzx => exact busReach_withSource regsOnly_cmpA h
  case cmpIzy => exact busReach_withSource regsOnly_cmpA h
  case cpxImm => exact busReach_withSource regsOnly_cmpX h
  case cpxZp => exact busReach_withSource regsOnly_cmpX h
  case cpxAbs => exact busReach_withSource regsOnly_cmpX h
  case cpyImm => exact busReach_withSource regsOnly_cmpY h
  case cpyZp => exact busReach_withSource regsOnly_cmpY h
  case cpyAbs => exact busReach_withSource regsOnly_cmpY h
  case incZp => exact busReach_modifyAt h
  case incZpx => exact busReach_modifyAt h
  case incAbs => exact busReach_modifyAt h
  case incAbx => exact busReach_modifyAt h
  case decZp => exact busReach_modifyAt h
  case decZpx => exact busReach_modifyAt h
  case decAbs => exact busReach_modifyAt h
  case decAbx => exact busReach_modifyAt h
  case aslAcc => exact busReach_modifyA h
  case aslZp => exact busReach_modifyAt h
  case aslZpx => exact busReach_modifyAt h
  case aslAbs => exact busReach_modifyAt h
  case aslAbx => exact busReach_modifyAt h
  case lsrAcc => exact busReach_modifyA h
  case lsrZp => exact busReach_modifyAt h
  case lsrZpx => exact busReach_modifyAt h
  case lsrAbs => exact busReach_modifyAt h
  case lsrAbx => exact busReach_modifyAt h
  case rolAcc => exact busReach_modifyA h
  case rolZp => exact busReach_modifyAt h
  case rolZpx => exact busReach_modifyAt h
  case rolAbs => exact busReach_modifyAt h
  case rolAbx => exact busReach_modifyAt h
  case rorAcc => exact busReach_modifyA h
  case rorZp => exact busReach_modifyAt h
  case rorZpx => exact busReach_modifyAt h
  case rorAbs => exact busReach_modifyAt h
  case rorAbx => exact busReach_modifyAt h
  case bcc => exact busReach_branch h
  case bcs => exact busReach_branch h
  case beq => exact busReach_branch h
  case bmi => exact busReach_branch h
  case bne => exact busReach_branch h
  case bpl => exact busReach_branch h
  case bvc => exact busReach_branch h
  case bvs => exact busReach_branch h
  case skip04 => exact busReach_skipBytes h
  case skip0C => exact busReach_skipBytes h
  case skip14 => exact busReach_skipBytes h
  case skip1A => exact busReach_skipBytes h
  case skip1C => exact busReach_skipBytes h
  case skip34 => exact busReach_skipBytes h
  case skip3A => exact busReach_skipBytes h
  case skip3C => exact busReach_skipBytes h
  case skip44 => exact busReach_skipBytes h
  case skip54 => exact busReach_skipBytes h
  case skip5A => exact busReach_skipBytes h
  case skip5C => exact busReach_skipBytes h
  case skip64 => exact busReach_skipBytes h
  case skip74 => exact busReach_skipBytes h
  case skip7A => exact busReach_skipBytes h
  case skip7C => exact busReach_skipBytes h
  case skip80 => exact busReach_skipBytes h
  case skip82 => exact busReach_skipBytes h
  case skip89 => exact busReach_skipBytes h
  case skipC2 => exact busReach_skipBytes h
  case skipD4 => exact busReach_skipBytes h
  case skipDA => exact busReach_skipBytes h
  case skipDC => exact busReach_skipBytes h
  case skipE2 => exact busReach_skipBytes h
  case skipF4 => exact busReach_skipBytes h
  case skipFA => exact busReach_skipBytes h
  case skipFC => exact busReach_skipBytes h
  case tax => cases h; exact (((BusReach.refl s).withX _).withP _).withCycles _
  case tay => cases h; exact (((BusReach.refl s).withY _).withP _).withCycles _
  case txa => cases h; exact (((BusReach.refl s).withA _).withP _).withCycles _
  case tya => cases h; exact (((BusReach.refl s).withA _).withP _).withCycles _
  case tsx => cases h; exact (((BusReach.refl s).withX _).withP _).withCycles _
  case txs => cases h; exact ((BusReach.refl s).withSp _).withCycles _
  case pha => cases h; exact ((BusReach.refl s).push _).withCycles _
  case php => cases h; exact ((BusReach.refl s).push _).withCycles _
  case pla => cases h; exact (((BusReach.refl s).pull.withA _).withP _).withCycles _
  case plp => cases h; exact ((BusReach.refl s).pull.withP _).withCycles _
  case inx => cases h; exact (((BusReach.refl s).withX _).withP _).withCycles _
  case iny => cases h; exact (((BusReach.refl s).withY _).withP _).withCycles _
  case dex => cases h; exact (((BusReach.refl s).withX _).withP _).withCycles _
  case dey => cases h; exact (((BusReach.refl s).withY _).withP _).withCycles _
  case jmpAbs => cases h; exact ((BusReach.refl s).withPc _).withCycles _
  case jmpInd => cases h; exact ((((BusReach.refl s).read _).read _).withPc _).withCycles _
  case jsr => cases h; exact (((BusReach.refl s).pushWord _).withPc _).withCycles _
  case rts => cases h; exact ((BusReach.refl s).pullWord.withPc _).withCycles _
  case clc => cases h; exact ((BusReach.refl s).withP _).withCycles _
  case cld => cases h; exact ((BusReach.refl s).withP _).withCycles _
  case cli => cases h; exact ((BusReach.refl s).withP _).withCycles _
  case clv => cases h; exact ((BusReach.refl s).withP _).withCycles _
  case sec => cases h; exact ((BusReach.refl s).withP _).withCycles _
  case sed => cases h; exact ((BusReach.refl s).withP _).withCycles _
  case sei => cases h; exact ((BusReach.refl s).withP _).withCycles _
  case nop => cases h; exact (BusReach.refl s).withCycles _
  case brk => cases h; exact ((BusReach.refl s).interruptEntry _ _ _).withCycles _
  case rti => cases h; exact (BusReach.refl s).interruptReturn.withCycles _

/-- A fetch only moves `pc` and makes bus reads. -/
theorem busReach_fetchOperands {s t : State} (r : Row) (h : BusReach s t) : BusReach s (fetchOperands r t).2 := by
  unfold fetchOperands
  split
  · exact h
  · exact h.fetchByte
  · exact h.fetchByte.fetchByte

theorem busReach_fetchInstr (s : State) : BusReach s (fetchInstr s).2 := by
  have h0 := (BusReach.refl s).fetchByte
  unfold fetchInstr
  split
  · exact h0
  · exact busReach_fetchOperands _ h0

/-- Everything a CPU step of an unfaulted machine can do: an NMI entry, an unknown opcode, or one instruction after its fetch. -/
theorem cpuStep_cases {s t : State} (h : cpuStep s = .next t) : s.fault = none ∧
    ((s.nmiPending = true ∧ t = nmiEntry (s.withCycles 0)) ∨
     (∃ op s1, s.nmiPending = false ∧ fetchInstr (s.withCycles 0) = (.error op, s1) ∧ t = s1.withFault (.unknownOpcode op)) ∨
     (∃ i s1, s.nmiPending = false ∧ fetchInstr (s.withCycles 0) = (.ok i, s1) ∧ exec i s1 = .next t)) := by
  unfold cpuStep at h
  split at h
  · cases h
  · next hf =>
    refine ⟨hf, ?_⟩
    cases hn : s.nmiPending with
    | true =>
      simp only [State.withCycles_nmiPending, hn, if_true] at h
      cases h
      exact .inl ⟨rfl, rfl⟩
    | false =>
      simp only [State.withCycles_nmiPending, hn, Bool.false_eq_true, if_false] at h
      rcases hfe : fetchInstr (s.withCycles 0) with ⟨_ | i, s1⟩ <;> rw [hfe] at h
      · cases h
        exact .inr (.inl ⟨_, _, rfl, rfl, rfl⟩)
      · exact .inr (.inr ⟨_, _, rfl, rfl, h⟩)

/-! ## What bus accesses and register changes keep -/

namespace BusReach

/-- The PPU counters, the NMI latch and the fault record are out of the CPU's reach. -/
theorem outside {s t : State} (h : BusReach s t) : t.cycle = s.cycle ∧ t.scanline = s.scanline ∧ t.frameCount = s.frameCount ∧
    t.nmiPending = s.nmiPending ∧ t.fault = s.fault := by
  induction h with
  | refl => exact ⟨rfl, rfl, rfl, rfl, rfl⟩
  | regs _ _ _ _ _ _ _ _ ih => exact ih
  | read _ addr ih =>
    rw [memRead_snd]
    split <;> exact ih
  | write _ addr v ih =>
    rw [memWrite_eq]
    split <;> exact ih

theorem wf {s t : State} (h : BusReach s t) (hs : s.mem.wf) : t.mem.wf := by
  induction h with
  | refl => exact hs
  | regs _ _ _ _ _ _ _ _ ih => exact ih
  | read _ addr ih => exact wf_memRead ih addr
  | write _ addr v ih => exact wf_memWrite ih addr v

/-- The program ROM is out of reach (R50). -/
theorem rom {s t : State} (h : BusReach s t) {k : Nat} (hk : 0x8000 ≤ k) : t.mem.read k = s.mem.read k := by
  induction h with
  | refl => rfl
  | regs _ _ _ _ _ _ _ _ ih => exact ih
  | read _ addr ih =>
    rw [memRead_snd]
    split
    · exact (Memory.read_write_other _ _ (by rw [statusCell_eq]; omega)).trans ih
    · exact ih
  | write _ addr v ih =>
    rw [memWrite_eq]
    split
    · next h =>
      have hc := cellOf_eq addr
      refine (Memory.read_write_other _ _ ?_).trans ih
      split at hc
      · omega
      · split at hc
        · omega
        · rw [if_pos h.1] at hc; omega
    · exact ih

/-- The two suppression flags stay equal (R31). -/
theorem suppress {s t : State} (h : BusReach s t) (hs : s.suppressVbl = s.suppressNmi) : t.suppressVbl = t.suppressNmi := by
  induction h with
  | refl => exact hs
  | regs _ _ _ _ _ _ _ _ ih => exact ih
  | read _ addr ih =>
    rw [memRead_snd]
    split
    · simp only [statusReadEffects, ih]
    · exact ih
  | write _ addr v ih =>
    rw [memWrite_eq]
    split <;> exact ih

/-- The CPU can change the status byte only by clearing VBlank (R27, R329, R332). -/
theorem status {s t : State} (h : BusReach s t) (hs : s.mem.wf) :
    ppuStatus t = ppuStatus s ∨ ppuStatus t = ppuStatus s &&& ~~~maskVBlank := by
  induction h with
  | refl => exact .inl rfl
  | regs _ _ _ _ _ _ _ _ ih => exact ih
  | @read t h' addr ih =>
    rw [memRead_snd]
    split
    · have e : ppuStatus (statusReadEffects t) = ppuStatus t &&& ~~~maskVBlank := ppuStatus_setStatus (h'.wf hs) _
      rw [e]
      rcases ih with ih | ih <;> rw [ih]
      · exact .inr rfl
      · exact .inr (by rw [BitVec.and_assoc, BitVec.and_self])
    · exact ih
  | write _ addr v ih =>
    rw [memWrite_eq]
    split
    · next h =>
      have e : ∀ m : Memory, (m.write (cellOf addr) v).read statusCell = m.read statusCell :=
        fun m => Memory.read_write_other m v (Ne.symm h.2)
      simp only [ppuStatus, e]
      exact ih
    · exact ih

end BusReach

end Sys2Proof.Machine
end

