-- ==== Sys2Proof/Machine/Trace.lean ====
section
/-! DEFINITION. The fixed-width trace record that the snapshot is compared with (R343): one line of text, eight fields. -/

namespace Sys2Proof.Machine

/-- A field of the record: columns `[first, last)` and radix. -/
structure TraceField where
  first : Nat
  last  : Nat
  radix : Nat
  deriving DecidableEq, Repr

/-- The layout of R343. -/
def fieldPc : TraceField := ⟨0, 4, 16⟩
/-- See `fieldPc`. -/
def fieldA : TraceField := ⟨50, 52, 16⟩
/-- See `fieldPc`. -/
def fieldX : TraceField := ⟨55, 57, 16⟩
/-- See `fieldPc`. -/
def fieldY : TraceField := ⟨60, 62, 16⟩
/-- See `fieldPc`. -/
def fieldP : TraceField := ⟨65, 67, 16⟩
/-- See `fieldPc`. -/
def fieldSp : TraceField := ⟨71, 73, 16⟩
/-- See `fieldPc`. -/
def fieldCycle : TraceField := ⟨78, 81, 10⟩
/-- See `fieldPc`. -/
def fieldScanline : TraceField := ⟨85, 88, 10⟩

/-- The value of a digit, both letter cases. -/
def digitValue (c : Char) : Option Nat :=
  if '0' ≤ c ∧ c ≤ '9' then some (c.toNat - 48)
  else if 'A' ≤ c ∧ c ≤ 'F' then some (c.toNat - 55)
  else if 'a' ≤ c ∧ c ≤ 'f' then some (c.toNat - 87)
  else none

/-- The number written by digits of a radix, most significant first, after `acc`. -/
def digitsValue (radix : Nat) : List Char → Nat → Option Nat
  | [], acc => some acc
  | c :: cs, acc =>
    match digitValue c with
    | some d => if d < radix then digitsValue radix cs (acc * radix + d) else none
    | none => none

/-- A field's characters without the blanks before and after them. -/
def trimBlanks (cs : List Char) : List Char :=
  (((cs.dropWhile (fun c => c == ' ')).reverse).dropWhile (fun c => c == ' ')).reverse

/-- The number in a field: digits, at least one, a minus sign before them for a negative number, blanks around them ignored
(log 12). -/
def fieldValue (f : TraceField) (line : List Char) : Option Int :=
  match trimBlanks ((line.drop f.first).take (f.last - f.first)) with
  | [] => none
  | c :: cs =>
    if c = '-' then (if cs = [] then none else (digitsValue f.radix cs 0).map (fun n => -(n : Int)))
    else (digitsValue f.radix (c :: cs) 0).map (fun n => (n : Int))

/-- Whether a snapshot equals every field of a trace record (R343). -/
def matchesRecord (line : List Char) (v : Snapshot) : Bool :=
  fieldValue fieldPc line == some (v.pc.toNat : Int) && fieldValue fieldA line == some (v.a.toNat : Int) &&
  fieldValue fieldX line == some (v.x.toNat : Int) && fieldValue fieldY line == some (v.y.toNat : Int) &&
  fieldValue fieldP line == some (v.p.toNat : Int) && fieldValue fieldSp line == some (v.sp.toNat : Int) &&
  fieldValue fieldCycle line == some (v.cycle : Int) && fieldValue fieldScanline line == some v.scanline

end Sys2Proof.Machine
end

