-- ==== Sys2Proof/Tests/Slice0.lean ====
section
/-! SUPPORT. Tests: ill-formed terms the checks refuse, every constructor's decoding from the encodings of the opcode table,
single steps from the spec's test vectors (95_test_vectors.md, whose ids the docstrings name), and witnesses that the hypotheses of
the obligations can be met. -/

namespace Sys2Proof.Tests

set_option Elab.async false

open Sys2Proof Sys2Proof.Machine Sys2Proof.Claims

/-- Bytes stored behind addresses. -/
def pokes (l : List (Word × Byte)) (s : State) : State := l.foldl (fun t c => poke c.1 c.2 t) s

/-- The start state of the spec's vectors: `pc` and `p` of R365, the rest as after reset. -/
def base : State := { State.reset with pc := 0xC000, p := 0x24 }

/-- The state a vector starts in: `prog` at `pc`, `cells` elsewhere. -/
def start (s : State) (prog : List Byte) (cells : List (Word × Byte)) : State :=
  pokes (((List.range prog.length).map (fun k => s.pc + BitVec.ofNat 16 k)).zip prog ++ cells) s

/-- The registers pc, a, x, y, p, sp and the cycle count. -/
def regs (s : State) : List Nat := [s.pc.toNat, s.a.toNat, s.x.toNat, s.y.toNat, s.p.toNat, s.sp.toNat, s.cycleCount]

/-- A step from `s` ends without a fault, with these registers and these bytes. -/
def gives (s : State) (want : List Nat) (cells : List (Word × Byte)) : Bool :=
  match step s with
  | .next t => regs t == want && cells.all (fun c => peek t c.1 == c.2) && t.fault.isNone
  | _ => false

/-- Bytes decode to exactly one instruction. -/
def decodesTo (bs : List Byte) (i : Instr) : Bool :=
  match decode bs with
  | .ok (j, []) => j == i
  | _ => false

/-- An outcome is a next state. -/
def answers (o : Host.Outcome State Fault Refusal) : Bool :=
  match o with
  | .next _ => true
  | _ => false

/-! ## Well-formedness -/

/-- D17: an empty image is refused. -/
theorem test_image_empty_ill_formed : wellFormedImage [] = false := by decide +kernel

/-- D17: an image of one bank too many is refused; so are the sizes next to 16384. -/
theorem test_image_sizes : wellFormedImage (List.replicate 32768 0) = false ∧ wellFormedImage (List.replicate 16383 0) = false ∧
    wellFormedImage (List.replicate 16385 0) = false ∧ wellFormedImage (List.replicate 16384 0) = true := by
  simp only [wellFormedImage, List.length_replicate]; decide

/-- R91: no operand byte is reserved. -/
theorem test_instr_well_formed : wellFormed (.ldaImm 0xFF) = true := by decide +kernel

/-- R8: a configuration of other widths, with a RAM size no mask fits, or with a gap between two regions, is refused. -/
theorem test_params_regions_ill_formed : wellFormedParams { config with xlenData := 16 } = false ∧
    wellFormedParams { config with xlenAddr := 8 } = false ∧ wellFormedParams { config with ramSize := 0x0801 } = false ∧
    wellFormedParams { config with ppuRegBase := 0x2008 } = false ∧ wellFormedParams { config with ioEnd := 0x8001 } = false ∧
    wellFormedParams { config with prgMirror := 0xC001 } = false ∧ wellFormedParams config = true := by decide +kernel

/-- R8: events outside the PPU's positions, a VBlank set with no tick before it in its line, a skip row for an official opcode or one
listed twice, and a table of cycles with a line missing, are refused; the empty skip table is not (U6). -/
theorem test_params_tables_ill_formed : wellFormedParams { config with vblClearAt := (261, 1) } = false ∧
    wellFormedParams { config with ppuInit := (341, 0, 0) } = false ∧ wellFormedParams { config with vblSetAt := (240, 0) } = false ∧
    wellFormedParams { config with skipTable := [⟨0xEA, 1, 2⟩] } = false ∧
    wellFormedParams { config with skipTable := [⟨0x1A, 1, 2⟩, ⟨0x1A, 1, 2⟩] } = false ∧
    wellFormedParams { config with baseCycles := config.baseCycles.tail } = false ∧
    wellFormedParams { config with skipTable := [] } = true := by decide +kernel

/-! ## Decoding -/

/-- R70, R89: every opcode of the family, its first byte bit by bit from the table. -/
theorem test_decode_loadStore : ([
    ([0b10101001, 0x9C], .ldaImm 0x9C), ([0b10100101, 0x9C], .ldaZp 0x9C), ([0b10110101, 0x9C], .ldaZpx 0x9C),
    ([0b10101101, 0x34, 0xF2], .ldaAbs 0xF234), ([0b10111101, 0x34, 0xF2], .ldaAbx 0xF234),
    ([0b10111001, 0x34, 0xF2], .ldaAby 0xF234), ([0b10100001, 0x9C], .ldaIzx 0x9C), ([0b10110001, 0x9C], .ldaIzy 0x9C),
    ([0b10100010, 0x9C], .ldxImm 0x9C), ([0b10100110, 0x9C], .ldxZp 0x9C), ([0b10110110, 0x9C], .ldxZpy 0x9C),
    ([0b10101110, 0x34, 0xF2], .ldxAbs 0xF234), ([0b10111110, 0x34, 0xF2], .ldxAby 0xF234), ([0b10100000, 0x9C], .ldyImm 0x9C),
    ([0b10100100, 0x9C], .ldyZp 0x9C), ([0b10110100, 0x9C], .ldyZpx 0x9C), ([0b10101100, 0x34, 0xF2], .ldyAbs 0xF234),
    ([0b10111100, 0x34, 0xF2], .ldyAbx 0xF234), ([0b10000101, 0x9C], .staZp 0x9C), ([0b10010101, 0x9C], .staZpx 0x9C),
    ([0b10001101, 0x34, 0xF2], .staAbs 0xF234), ([0b10011101, 0x34, 0xF2], .staAbx 0xF234),
    ([0b10011001, 0x34, 0xF2], .staAby 0xF234), ([0b10000001, 0x9C], .staIzx 0x9C), ([0b10010001, 0x9C], .staIzy 0x9C),
    ([0b10000110, 0x9C], .stxZp 0x9C), ([0b10010110, 0x9C], .stxZpy 0x9C), ([0b10001110, 0x34, 0xF2], .stxAbs 0xF234),
    ([0b10000100, 0x9C], .styZp 0x9C), ([0b10010100, 0x9C], .styZpx 0x9C), ([0b10001100, 0x34, 0xF2], .styAbs 0xF234) ] : List (List Byte × Instr)).all (fun c => decodesTo c.1 c.2) = true := by decide +kernel

/-- R70, R89: every opcode of the family, its first byte bit by bit from the table. -/
theorem test_decode_transfer : ([
    ([0b10101010], .tax), ([0b10101000], .tay), ([0b10001010], .txa), ([0b10011000], .tya), ([0b10111010], .tsx),
    ([0b10011010], .txs) ] : List (List Byte × Instr)).all (fun c => decodesTo c.1 c.2) = true := by decide +kernel

/-- R70, R89: every opcode of the family, its first byte bit by bit from the table. -/
theorem test_decode_stack : ([
    ([0b01001000], .pha), ([0b00001000], .php), ([0b01101000], .pla), ([0b00101000], .plp) ] : List (List Byte × Instr)).all (fun c => decodesTo c.1 c.2) = true := by decide +kernel

/-- R70, R89: every opcode of the family, its first byte bit by bit from the table. -/
theorem test_decode_logic : ([
    ([0b00101001, 0x9C], .andImm 0x9C), ([0b00100101, 0x9C], .andZp 0x9C), ([0b00110101, 0x9C], .andZpx 0x9C),
    ([0b00101101, 0x34, 0xF2], .andAbs 0xF234), ([0b00111101, 0x34, 0xF2], .andAbx 0xF234),
    ([0b00111001, 0x34, 0xF2], .andAby 0xF234), ([0b00100001, 0x9C], .andIzx 0x9C), ([0b00110001, 0x9C], .andIzy 0x9C),
    ([0b00001001, 0x9C], .oraImm 0x9C), ([0b00000101, 0x9C], .oraZp 0x9C), ([0b00010101, 0x9C], .oraZpx 0x9C),
    ([0b00001101, 0x34, 0xF2], .oraAbs 0xF234), ([0b00011101, 0x34, 0xF2], .oraAbx 0xF234),
    ([0b00011001, 0x34, 0xF2], .oraAby 0xF234), ([0b00000001, 0x9C], .oraIzx 0x9C), ([0b00010001, 0x9C], .oraIzy 0x9C),
    ([0b01001001, 0x9C], .eorImm 0x9C), ([0b01000101, 0x9C], .eorZp 0x9C), ([0b01010101, 0x9C], .eorZpx 0x9C),
    ([0b01001101, 0x34, 0xF2], .eorAbs 0xF234), ([0b01011101, 0x34, 0xF2], .eorAbx 0xF234),
    ([0b01011001, 0x34, 0xF2], .eorAby 0xF234), ([0b01000001, 0x9C], .eorIzx 0x9C), ([0b01010001, 0x9C], .eorIzy 0x9C),
    ([0b00100100, 0x9C], .bitZp 0x9C), ([0b00101100, 0x34, 0xF2], .bitAbs 0xF234) ] : List (List Byte × Instr)).all (fun c => decodesTo c.1 c.2) = true := by decide +kernel

/-- R70, R89: every opcode of the family, its first byte bit by bit from the table. -/
theorem test_decode_arith : ([
    ([0b01101001, 0x9C], .adcImm 0x9C), ([0b01100101, 0x9C], .adcZp 0x9C), ([0b01110101, 0x9C], .adcZpx 0x9C),
    ([0b01101101, 0x34, 0xF2], .adcAbs 0xF234), ([0b01111101, 0x34, 0xF2], .adcAbx 0xF234),
    ([0b01111001, 0x34, 0xF2], .adcAby 0xF234), ([0b01100001, 0x9C], .adcIzx 0x9C), ([0b01110001, 0x9C], .adcIzy 0x9C),
    ([0b11101001, 0x9C], .sbcImm 0x9C), ([0b11100101, 0x9C], .sbcZp 0x9C), ([0b11110101, 0x9C], .sbcZpx 0x9C),
    ([0b11101101, 0x34, 0xF2], .sbcAbs 0xF234), ([0b11111101, 0x34, 0xF2], .sbcAbx 0xF234),
    ([0b11111001, 0x34, 0xF2], .sbcAby 0xF234), ([0b11100001, 0x9C], .sbcIzx 0x9C), ([0b11110001, 0x9C], .sbcIzy 0x9C),
    ([0b11001001, 0x9C], .cmpImm 0x9C), ([0b11000101, 0x9C], .cmpZp 0x9C), ([0b11010101, 0x9C], .cmpZpx 0x9C),
    ([0b11001101, 0x34, 0xF2], .cmpAbs 0xF234), ([0b11011101, 0x34, 0xF2], .cmpAbx 0xF234),
    ([0b11011001, 0x34, 0xF2], .cmpAby 0xF234), ([0b11000001, 0x9C], .cmpIzx 0x9C), ([0b11010001, 0x9C], .cmpIzy 0x9C),
    ([0b11100000, 0x9C], .cpxImm 0x9C), ([0b11100100, 0x9C], .cpxZp 0x9C), ([0b11101100, 0x34, 0xF2], .cpxAbs 0xF234),
    ([0b11000000, 0x9C], .cpyImm 0x9C), ([0b11000100, 0x9C], .cpyZp 0x9C), ([0b11001100, 0x34, 0xF2], .cpyAbs 0xF234) ] : List (List Byte × Instr)).all (fun c => decodesTo c.1 c.2) = true := by decide +kernel

/-- R70, R89: every opcode of the family, its first byte bit by bit from the table. -/
theorem test_decode_incDec : ([
    ([0b11100110, 0x9C], .incZp 0x9C), ([0b11110110, 0x9C], .incZpx 0x9C), ([0b11101110, 0x34, 0xF2], .incAbs 0xF234),
    ([0b11111110, 0x34, 0xF2], .incAbx 0xF234), ([0b11000110, 0x9C], .decZp 0x9C), ([0b11010110, 0x9C], .decZpx 0x9C),
    ([0b11001110, 0x34, 0xF2], .decAbs 0xF234), ([0b11011110, 0x34, 0xF2], .decAbx 0xF234), ([0b11101000], .inx),
    ([0b11001000], .iny), ([0b11001010], .dex), ([0b10001000], .dey) ] : List (List Byte × Instr)).all (fun c => decodesTo c.1 c.2) = true := by decide +kernel

/-- R70, R89: every opcode of the family, its first byte bit by bit from the table. -/
theorem test_decode_shift : ([
    ([0b00001010], .aslAcc), ([0b00000110, 0x9C], .aslZp 0x9C), ([0b00010110, 0x9C], .aslZpx 0x9C),
    ([0b00001110, 0x34, 0xF2], .aslAbs 0xF234), ([0b00011110, 0x34, 0xF2], .aslAbx 0xF234), ([0b01001010], .lsrAcc),
    ([0b01000110, 0x9C], .lsrZp 0x9C), ([0b01010110, 0x9C], .lsrZpx 0x9C), ([0b01001110, 0x34, 0xF2], .lsrAbs 0xF234),
    ([0b01011110, 0x34, 0xF2], .lsrAbx 0xF234), ([0b00101010], .rolAcc), ([0b00100110, 0x9C], .rolZp 0x9C),
    ([0b00110110, 0x9C], .rolZpx 0x9C), ([0b00101110, 0x34, 0xF2], .rolAbs 0xF234), ([0b00111110, 0x34, 0xF2], .rolAbx 0xF234),
    ([0b01101010], .rorAcc), ([0b01100110, 0x9C], .rorZp 0x9C), ([0b01110110, 0x9C], .rorZpx 0x9C),
    ([0b01101110, 0x34, 0xF2], .rorAbs 0xF234), ([0b01111110, 0x34, 0xF2], .rorAbx 0xF234) ] : List (List Byte × Instr)).all (fun c => decodesTo c.1 c.2) = true := by decide +kernel

/-- R70, R89: every opcode of the family, its first byte bit by bit from the table. -/
theorem test_decode_jump : ([
    ([0b01001100, 0x34, 0xF2], .jmpAbs 0xF234), ([0b01101100, 0x34, 0xF2], .jmpInd 0xF234),
    ([0b00100000, 0x34, 0xF2], .jsr 0xF234), ([0b01100000], .rts) ] : List (List Byte × Instr)).all (fun c => decodesTo c.1 c.2) = true := by decide +kernel

/-- R70, R89: every opcode of the family, its first byte bit by bit from the table. -/
theorem test_decode_branch : ([
    ([0b10010000, 0x9C], .bcc 0x9C), ([0b10110000, 0x9C], .bcs 0x9C), ([0b11110000, 0x9C], .beq 0x9C),
    ([0b00110000, 0x9C], .bmi 0x9C), ([0b11010000, 0x9C], .bne 0x9C), ([0b00010000, 0x9C], .bpl 0x9C),
    ([0b01010000, 0x9C], .bvc 0x9C), ([0b01110000, 0x9C], .bvs 0x9C) ] : List (List Byte × Instr)).all (fun c => decodesTo c.1 c.2) = true := by decide +kernel

/-- R70, R89: every opcode of the family, its first byte bit by bit from the table. -/
theorem test_decode_flagSystem : ([
    ([0b00011000], .clc), ([0b11011000], .cld), ([0b01011000], .cli), ([0b10111000], .clv), ([0b00111000], .sec),
    ([0b11111000], .sed), ([0b01111000], .sei), ([0b11101010], .nop), ([0b00000000], .brk), ([0b01000000], .rti) ] : List (List Byte × Instr)).all (fun c => decodesTo c.1 c.2) = true := by decide +kernel

/-- R90: every opcode of the family, its first byte bit by bit from the table. -/
theorem test_decode_skip : ([
    ([0b00000100, 0x9C], .skip04), ([0b00001100, 0x34, 0xF2], .skip0C), ([0b00010100, 0x9C], .skip14), ([0b00011010], .skip1A),
    ([0b00011100, 0x34, 0xF2], .skip1C), ([0b00110100, 0x9C], .skip34), ([0b00111010], .skip3A),
    ([0b00111100, 0x34, 0xF2], .skip3C), ([0b01000100, 0x9C], .skip44), ([0b01010100, 0x9C], .skip54), ([0b01011010], .skip5A),
    ([0b01011100, 0x34, 0xF2], .skip5C), ([0b01100100, 0x9C], .skip64), ([0b01110100, 0x9C], .skip74), ([0b01111010], .skip7A),
    ([0b01111100, 0x34, 0xF2], .skip7C), ([0b10000000, 0x9C], .skip80), ([0b10000010, 0x9C], .skip82),
    ([0b10001001, 0x9C], .skip89), ([0b11000010, 0x9C], .skipC2), ([0b11010100, 0x9C], .skipD4), ([0b11011010], .skipDA),
    ([0b11011100, 0x34, 0xF2], .skipDC), ([0b11100010, 0x9C], .skipE2), ([0b11110100, 0x9C], .skipF4), ([0b11111010], .skipFA),
    ([0b11111100, 0x34, 0xF2], .skipFC) ] : List (List Byte × Instr)).all (fun c => decodesTo c.1 c.2) = true := by decide +kernel

/-- R91: two of the unknown opcodes, rejected by name. -/
theorem test_decode_unknown : decode [0x02, 0x00, 0x00] = .error (.unknownOpcode 0x02) ∧
    decode [0xFF] = .error (.unknownOpcode 0xFF) := ⟨rfl, rfl⟩

/-- R70: an instruction whose last byte is missing is no instruction. -/
theorem test_decode_truncated : decode [0xAD, 0x34] = .error (.truncated 0xAD) ∧ decode [] = .error .noBytes := ⟨rfl, rfl⟩

/-- R70: the opcode table's numbering, first byte lowest; operand bytes above `nbits` are zero. -/
theorem test_decodeTableWord : decodeTableWord 24 0x1234BD = some (.ldaAbx 0x1234) ∧
    decodeTableWord 8 0xBD = some (.ldaAbx 0x0000) ∧ decodeTableWord 8 0x02 = none := by decide +kernel

/-- The placed word is the one the step runs: LDA #0x80 after reset (R71). -/
theorem test_withFetchWord : gives (State.reset.withFetchWord 16 0x80A9) [0x0002, 0x80, 0, 0, 0xB4, 0xFD, 2] [] = true := by decide +kernel

/-! ## Single steps -/

/-- V7: LDA abs,X page crossed +1. -/
theorem test_lda_V7 : gives (start { base with x := 0x01 } [0xBD, 0xFF, 0x02] [(0x0300, 0x77)])
    [0xC003, 0x77, 0x01, 0x00, 0x24, 0xFD, 5] [] = true := by decide +kernel

/-- V11: LDA (zp),Y: pointer wraps, crossed +1. -/
theorem test_lda_V11 : gives (start { base with y := 0x01 } [0xB1, 0xFF] [(0x00FF, 0xFF), (0x0000, 0x02), (0x0300, 0xCD)])
    [0xC002, 0xCD, 0x00, 0x01, 0xA4, 0xFD, 6] [] = true := by decide +kernel

/-- V5: LDX zp,Y wraps. -/
theorem test_ldx_V5 : gives (start { base with y := 0x02 } [0xB6, 0xFF] [(0x0001, 0x42)])
    [0xC002, 0x00, 0x42, 0x02, 0x24, 0xFD, 4] [] = true := by decide +kernel

/-- V13: LDX abs,Y crossed, Z. -/
theorem test_ldx_V13 : gives (start { base with y := 0x01 } [0xBE, 0xFF, 0x02] [(0x0300, 0x00)])
    [0xC003, 0x00, 0x00, 0x01, 0x26, 0xFD, 5] [] = true := by decide +kernel

/-- V14: LDY abs,X crossed, N. -/
theorem test_ldy_V14 : gives (start { base with x := 0x01 } [0xBC, 0xFF, 0x02] [(0x0300, 0x80)])
    [0xC003, 0x00, 0x01, 0x80, 0xA4, 0xFD, 5] [] = true := by decide +kernel

/-- V20: STA (zp,X): 0x10+0xF0 wraps to 0x00. -/
theorem test_sta_V20 : gives (start { base with a := 0x5A, x := 0xF0 } [0x81, 0x10] [(0x0000, 0x00), (0x0001, 0x03)])
    [0xC002, 0x5A, 0xF0, 0x00, 0x24, 0xFD, 6] [(0x0300, 0x5A)] = true := by decide +kernel

/-- V25: STA to 0x200A = status mirror: ignored. -/
theorem test_sta_V25 : gives (start { base with a := 0x5A } [0x8D, 0x0A, 0x20] [(0x2002, 0xE0)])
    [0xC003, 0x5A, 0x00, 0x00, 0x24, 0xFD, 4] [(0x2002, 0xE0)] = true := by decide +kernel

/-- V21: STX zp,Y wraps. -/
theorem test_stx_V21 : gives (start { base with x := 0x33, y := 0x20 } [0x96, 0xF0] [])
    [0xC002, 0x00, 0x33, 0x20, 0x24, 0xFD, 4] [(0x0010, 0x33)] = true := by decide +kernel

/-- V22: STY zp,X wraps. -/
theorem test_sty_V22 : gives (start { base with y := 0x44, x := 0x20 } [0x94, 0xF0] [])
    [0xC002, 0x00, 0x20, 0x44, 0x24, 0xFD, 4] [(0x0010, 0x44)] = true := by decide +kernel

/-- V30: TAX zero. -/
theorem test_tax_V30 : gives (start { base with a := 0x00, x := 0x55 } [0xAA] [])
    [0xC001, 0x00, 0x00, 0x00, 0x26, 0xFD, 2] [] = true := by decide +kernel

/-- V31: TAY negative. -/
theorem test_tay_V31 : gives (start { base with a := 0x80 } [0xA8] [])
    [0xC001, 0x80, 0x00, 0x80, 0xA4, 0xFD, 2] [] = true := by decide +kernel

/-- V32: TXA clears N. -/
theorem test_txa_V32 : gives (start { base with x := 0x7F, a := 0xFF, p := 0xA4 } [0x8A] [])
    [0xC001, 0x7F, 0x7F, 0x00, 0x24, 0xFD, 2] [] = true := by decide +kernel

/-- V33: TYA zero. -/
theorem test_tya_V33 : gives (start { base with y := 0x00, a := 0x01 } [0x98] [])
    [0xC001, 0x00, 0x00, 0x00, 0x26, 0xFD, 2] [] = true := by decide +kernel

/-- V34: TSX: x=FD, N. -/
theorem test_tsx_V34 : gives (start base [0xBA] [])
    [0xC001, 0x00, 0xFD, 0x00, 0xA4, 0xFD, 2] [] = true := by decide +kernel

/-- V35: TXS: no flags, sp=00. -/
theorem test_txs_V35 : gives (start { base with x := 0x00, p := 0xA5 } [0x9A] [])
    [0xC001, 0x00, 0x00, 0x00, 0xA5, 0x00, 2] [] = true := by decide +kernel

/-- V41: PHA at sp=00 wraps to FF. -/
theorem test_pha_V41 : gives (start { base with a := 0x11, sp := 0x00 } [0x48] [])
    [0xC001, 0x11, 0x00, 0x00, 0x24, 0xFF, 3] [(0x0100, 0x11)] = true := by decide +kernel

/-- V42: PLA at sp=FF reads 0x0100, Z. -/
theorem test_pla_V42 : gives (start { base with sp := 0xFF } [0x68] [(0x0100, 0x00), (0x0200, 0x77)])
    [0xC001, 0x00, 0x00, 0x00, 0x26, 0x00, 4] [] = true := by decide +kernel

/-- V43: PHP pushes p OR 0x30; p itself unchanged. -/
theorem test_php_V43 : gives (start { base with p := 0x00 } [0x08] [])
    [0xC001, 0x00, 0x00, 0x00, 0x00, 0xFC, 3] [(0x01FD, 0x30)] = true := by decide +kernel

/-- V45: PLP FF -> EF. -/
theorem test_plp_V45 : gives (start { base with sp := 0xFC } [0x28] [(0x01FD, 0xFF)])
    [0xC001, 0x00, 0x00, 0x00, 0xEF, 0xFD, 4] [] = true := by decide +kernel

/-- V46: PLP 00 -> 20. -/
theorem test_plp_V46 : gives (start { base with sp := 0xFC } [0x28] [(0x01FD, 0x00)])
    [0xC001, 0x00, 0x00, 0x00, 0x20, 0xFD, 4] [] = true := by decide +kernel

/-- V50: AND zero. -/
theorem test_and_V50 : gives (start { base with a := 0xF0 } [0x29, 0x0F] [])
    [0xC002, 0x00, 0x00, 0x00, 0x26, 0xFD, 2] [] = true := by decide +kernel

/-- V57: AND abs,X crossed. -/
theorem test_and_V57 : gives (start { base with a := 0xFF, x := 0x01 } [0x3D, 0xFF, 0x02] [(0x0300, 0x3C)])
    [0xC003, 0x3C, 0x01, 0x00, 0x24, 0xFD, 5] [] = true := by decide +kernel

/-- V51: ORA. -/
theorem test_ora_V51 : gives (start { base with a := 0x01 } [0x09, 0x80] [])
    [0xC002, 0x81, 0x00, 0x00, 0xA4, 0xFD, 2] [] = true := by decide +kernel

/-- V58: ORA (zp),Y crossed. -/
theorem test_ora_V58 : gives (start { base with a := 0x00, y := 0x10 } [0x11, 0x10] [(0x0010, 0xF8), (0x0011, 0x02), (0x0308, 0x01)])
    [0xC002, 0x01, 0x00, 0x10, 0x24, 0xFD, 6] [] = true := by decide +kernel

/-- V53: EOR leaves C,V. -/
theorem test_eor_V53 : gives (start { base with a := 0x7F, p := 0x65 } [0x49, 0xFF] [])
    [0xC002, 0x80, 0x00, 0x00, 0xE5, 0xFD, 2] [] = true := by decide +kernel

/-- V59: EOR (zp,X). -/
theorem test_eor_V59 : gives (start { base with a := 0xAA, x := 0x04 } [0x41, 0x10] [(0x0014, 0x00), (0x0015, 0x03), (0x0300, 0x55)])
    [0xC002, 0xFF, 0x04, 0x00, 0xA4, 0xFD, 6] [] = true := by decide +kernel

/-- V54: BIT: Z=1 N=1 V=1, a unchanged. -/
theorem test_bit_V54 : gives (start { base with a := 0x01 } [0x24, 0x10] [(0x0010, 0xC0)])
    [0xC002, 0x01, 0x00, 0x00, 0xE6, 0xFD, 3] [] = true := by decide +kernel

/-- V56: BIT status: N=1 Z=0; VBlank cleared by the read. -/
theorem test_bit_V56 : gives (start { base with a := 0x80 } [0x2C, 0x02, 0x20] [(0x2002, 0x80)])
    [0xC003, 0x80, 0x00, 0x00, 0xA4, 0xFD, 4] [(0x2002, 0x00)] = true := by decide +kernel

/-- V61: ADC carry+overflow. -/
theorem test_adc_V61 : gives (start { base with a := 0xD0 } [0x69, 0x90] [])
    [0xC002, 0x60, 0x00, 0x00, 0x65, 0xFD, 2] [] = true := by decide +kernel

/-- V65: ADC with D=1: binary. -/
theorem test_adc_V65 : gives (start { base with a := 0x01, p := 0x2C } [0x69, 0x99] [])
    [0xC002, 0x9A, 0x00, 0x00, 0xAC, 0xFD, 2] [] = true := by decide +kernel

/-- V69: SBC overflow. -/
theorem test_sbc_V69 : gives (start { base with a := 0x80, p := 0x25 } [0xE9, 0x01] [])
    [0xC002, 0x7F, 0x00, 0x00, 0x65, 0xFD, 2] [] = true := by decide +kernel

/-- V79b: SBC (zp),Y crossed. -/
theorem test_sbc_V79b : gives (start { base with a := 0x10, y := 0x01, p := 0x25 } [0xF1, 0x10] [(0x0010, 0xFF), (0x0011, 0x02), (0x0300, 0x01)])
    [0xC002, 0x0F, 0x00, 0x01, 0x25, 0xFD, 6] [] = true := by decide +kernel

/-- V73: CMP less. -/
theorem test_cmp_V73 : gives (start { base with a := 0x10, p := 0x25 } [0xC9, 0x20] [])
    [0xC002, 0x10, 0x00, 0x00, 0xA4, 0xFD, 2] [] = true := by decide +kernel

/-- V75: CMP greater; V kept. -/
theorem test_cmp_V75 : gives (start { base with a := 0x80, p := 0x64 } [0xC9, 0x00] [])
    [0xC002, 0x80, 0x00, 0x00, 0xE5, 0xFD, 2] [] = true := by decide +kernel

/-- V76: CPX less. -/
theorem test_cpx_V76 : gives (start { base with x := 0x0F } [0xE0, 0x10] [])
    [0xC002, 0x00, 0x0F, 0x00, 0xA4, 0xFD, 2] [] = true := by decide +kernel

/-- V78: CPY abs. -/
theorem test_cpy_V78 : gives (start { base with y := 0x00 } [0xCC, 0x00, 0x03] [(0x0300, 0x01)])
    [0xC003, 0x00, 0x00, 0x00, 0xA4, 0xFD, 4] [] = true := by decide +kernel

/-- V80: INC wraps to 0, Z; C kept. -/
theorem test_inc_V80 : gives (start { base with p := 0x25 } [0xE6, 0x10] [(0x0010, 0xFF)])
    [0xC002, 0x00, 0x00, 0x00, 0x27, 0xFD, 5] [(0x0010, 0x00)] = true := by decide +kernel

/-- V84: INC abs,X not crossed: 7. -/
theorem test_inc_V84 : gives (start { base with x := 0x01 } [0xFE, 0x00, 0x02] [(0x0201, 0x01)])
    [0xC003, 0x00, 0x01, 0x00, 0x24, 0xFD, 7] [(0x0201, 0x02)] = true := by decide +kernel

/-- V83: DEC abs,X crossed: flat 7. -/
theorem test_dec_V83 : gives (start { base with x := 0x01 } [0xDE, 0xFF, 0x02] [(0x0300, 0x01)])
    [0xC003, 0x00, 0x01, 0x00, 0x26, 0xFD, 7] [(0x0300, 0x00)] = true := by decide +kernel

/-- V86: INX wraps. -/
theorem test_inx_V86 : gives (start { base with x := 0xFF } [0xE8] [])
    [0xC001, 0x00, 0x00, 0x00, 0x26, 0xFD, 2] [] = true := by decide +kernel

/-- V87: INY. -/
theorem test_iny_V87 : gives (start { base with y := 0x7F } [0xC8] [])
    [0xC001, 0x00, 0x00, 0x80, 0xA4, 0xFD, 2] [] = true := by decide +kernel

/-- V88: DEX wraps. -/
theorem test_dex_V88 : gives (start { base with x := 0x00 } [0xCA] [])
    [0xC001, 0x00, 0xFF, 0x00, 0xA4, 0xFD, 2] [] = true := by decide +kernel

/-- V89: DEY zero. -/
theorem test_dey_V89 : gives (start { base with y := 0x01 } [0x88] [])
    [0xC001, 0x00, 0x00, 0x00, 0x26, 0xFD, 2] [] = true := by decide +kernel

/-- V90: ASL A. -/
theorem test_asl_V90 : gives (start { base with a := 0x80, p := 0xA4 } [0x0A] [])
    [0xC001, 0x00, 0x00, 0x00, 0x27, 0xFD, 2] [] = true := by decide +kernel

/-- V101: ASL on status: read E0 (clears bit 7, stores 60), write of C0 ignored. -/
theorem test_asl_V101 : gives (start base [0x0E, 0x02, 0x20] [(0x2002, 0xE0)])
    [0xC003, 0x00, 0x00, 0x00, 0xA5, 0xFD, 6] [(0x2002, 0x60)] = true := by decide +kernel

/-- V92: LSR A: C, Z; N cleared. -/
theorem test_lsr_V92 : gives (start { base with a := 0x01, p := 0xA4 } [0x4A] [])
    [0xC001, 0x00, 0x00, 0x00, 0x27, 0xFD, 2] [] = true := by decide +kernel

/-- V98: LSR abs,X crossed: flat 7. -/
theorem test_lsr_V98 : gives (start { base with x := 0x01 } [0x5E, 0xFF, 0x02] [(0x0300, 0x02)])
    [0xC003, 0x00, 0x01, 0x00, 0x24, 0xFD, 7] [(0x0300, 0x01)] = true := by decide +kernel

/-- V93: ROL A: carry in to bit 0, bit 7 to C. -/
theorem test_rol_V93 : gives (start { base with a := 0x80, p := 0x25 } [0x2A] [])
    [0xC001, 0x01, 0x00, 0x00, 0x25, 0xFD, 2] [] = true := by decide +kernel

/-- V99: ROL zp,X wraps. -/
theorem test_rol_V99 : gives (start { base with x := 0x02, p := 0x25 } [0x36, 0xFF] [(0x0001, 0x40)])
    [0xC002, 0x00, 0x02, 0x00, 0xA4, 0xFD, 6] [(0x0001, 0x81)] = true := by decide +kernel

/-- V96: ROR A: carry to bit 7. -/
theorem test_ror_V96 : gives (start { base with a := 0x00, p := 0x25 } [0x6A] [])
    [0xC001, 0x80, 0x00, 0x00, 0xA4, 0xFD, 2] [] = true := by decide +kernel

/-- V100: ROR abs. -/
theorem test_ror_V100 : gives (start base [0x6E, 0x00, 0x03] [(0x0300, 0xFF)])
    [0xC003, 0x00, 0x00, 0x00, 0x25, 0xFD, 6] [(0x0300, 0x7F)] = true := by decide +kernel

/-- V110: JMP abs. -/
theorem test_jmp_V110 : gives (start base [0x4C, 0xF5, 0xC5] [])
    [0xC5F5, 0x00, 0x00, 0x00, 0x24, 0xFD, 3] [] = true := by decide +kernel

/-- V111: JMP ind, wrap defect. -/
theorem test_jmp_V111 : gives (start base [0x6C, 0xFF, 0x02] [(0x02FF, 0x10), (0x0200, 0xC0), (0x0300, 0x99)])
    [0xC010, 0x00, 0x00, 0x00, 0x24, 0xFD, 5] [] = true := by decide +kernel

/-- V115: JSR sp=00 wraps. -/
theorem test_jsr_V115 : gives (start { base with sp := 0x00 } [0x20, 0x34, 0x12] [])
    [0x1234, 0x00, 0x00, 0x00, 0x24, 0xFE, 6] [(0x0100, 0xC0), (0x01FF, 0x02)] = true := by decide +kernel

/-- V117: RTS FFFF+1 wraps. -/
theorem test_rts_V117 : gives (start { base with sp := 0xFB } [0x60] [(0x01FC, 0xFF), (0x01FD, 0xFF)])
    [0x0000, 0x00, 0x00, 0x00, 0x24, 0xFD, 6] [] = true := by decide +kernel

/-- V120: BCC taken. -/
theorem test_bcc_V120 : gives (start base [0x90, 0x02] [])
    [0xC004, 0x00, 0x00, 0x00, 0x24, 0xFD, 3] [] = true := by decide +kernel

/-- V121: BCC not taken. -/
theorem test_bcc_V121 : gives (start { base with p := 0x25 } [0x90, 0x02] [])
    [0xC002, 0x00, 0x00, 0x00, 0x25, 0xFD, 2] [] = true := by decide +kernel

/-- V122: BCS taken, offset 0. -/
theorem test_bcs_V122 : gives (start { base with p := 0x25 } [0xB0, 0x00] [])
    [0xC002, 0x00, 0x00, 0x00, 0x25, 0xFD, 3] [] = true := by decide +kernel

/-- V123: BEQ to itself. -/
theorem test_beq_V123 : gives (start { base with p := 0x26 } [0xF0, 0xFE] [])
    [0xC000, 0x00, 0x00, 0x00, 0x26, 0xFD, 3] [] = true := by decide +kernel

/-- V124: BMI +127. -/
theorem test_bmi_V124 : gives (start { base with p := 0xA4 } [0x30, 0x7F] [])
    [0xC081, 0x00, 0x00, 0x00, 0xA4, 0xFD, 3] [] = true := by decide +kernel

/-- V125: BVC -128: crossed. -/
theorem test_bvc_V125 : gives (start base [0x50, 0x80] [])
    [0xBF82, 0x00, 0x00, 0x00, 0x24, 0xFD, 4] [] = true := by decide +kernel

/-- V126: BVS crossed forward. -/
theorem test_bvs_V126 : gives (start { base with pc := 0xC0FD, p := 0x64 } [0x70, 0x01] [])
    [0xC100, 0x00, 0x00, 0x00, 0x64, 0xFD, 4] [] = true := by decide +kernel

/-- V127: BNE: next instruction on next page = target: not crossed. -/
theorem test_bne_V127 : gives (start { base with pc := 0xC0FE } [0xD0, 0x00] [])
    [0xC100, 0x00, 0x00, 0x00, 0x24, 0xFD, 3] [] = true := by decide +kernel

/-- V129: BNE not taken. -/
theorem test_bne_V129 : gives (start { base with p := 0x26 } [0xD0, 0x7F] [])
    [0xC002, 0x00, 0x00, 0x00, 0x26, 0xFD, 2] [] = true := by decide +kernel

/-- V128: BPL at FFFE (the bytes are the IRQ/BRK vector 0x1010): next 0x0000, target 0x0010, not crossed. -/
theorem test_bpl_V128 : gives (start { base with pc := 0xFFFE } [0x10, 0x10] [])
    [0x0010, 0x00, 0x00, 0x00, 0x24, 0xFD, 3] [] = true := by decide +kernel

/-- V130. -/
theorem test_clc_V130 : gives (start { base with p := 0x25 } [0x18] [])
    [0xC001, 0x00, 0x00, 0x00, 0x24, 0xFD, 2] [] = true := by decide +kernel

/-- V131. -/
theorem test_sec_V131 : gives (start base [0x38] [])
    [0xC001, 0x00, 0x00, 0x00, 0x25, 0xFD, 2] [] = true := by decide +kernel

/-- V132. -/
theorem test_cli_V132 : gives (start base [0x58] [])
    [0xC001, 0x00, 0x00, 0x00, 0x20, 0xFD, 2] [] = true := by decide +kernel

/-- V133. -/
theorem test_sei_V133 : gives (start { base with p := 0x20 } [0x78] [])
    [0xC001, 0x00, 0x00, 0x00, 0x24, 0xFD, 2] [] = true := by decide +kernel

/-- V134. -/
theorem test_clv_V134 : gives (start { base with p := 0x64 } [0xB8] [])
    [0xC001, 0x00, 0x00, 0x00, 0x24, 0xFD, 2] [] = true := by decide +kernel

/-- V135. -/
theorem test_cld_V135 : gives (start { base with p := 0x2C } [0xD8] [])
    [0xC001, 0x00, 0x00, 0x00, 0x24, 0xFD, 2] [] = true := by decide +kernel

/-- V136. -/
theorem test_sed_V136 : gives (start base [0xF8] [])
    [0xC001, 0x00, 0x00, 0x00, 0x2C, 0xFD, 2] [] = true := by decide +kernel

/-- V137. -/
theorem test_nop_V137 : gives (start base [0xEA] [])
    [0xC001, 0x00, 0x00, 0x00, 0x24, 0xFD, 2] [] = true := by decide +kernel

/-- V144: skip does not read 0x2002. -/
theorem test_skipnop_V144 : gives (start base [0x0C, 0x02, 0x20] [(0x2002, 0x80)])
    [0xC003, 0x00, 0x00, 0x00, 0x24, 0xFD, 4] [(0x2002, 0x80)] = true := by decide +kernel

/-- V149: skip length 3 at FFFF: pc wraps to 0x0002. -/
theorem test_skipnop_V149 : gives (start { base with pc := 0xFFFF } [0xFC] [])
    [0x0002, 0x00, 0x00, 0x00, 0x24, 0xFD, 4] [] = true := by decide +kernel

/-- V151: BRK. -/
theorem test_brk_V151 : gives (start { base with pc := 0xC001, p := 0x25 } [0x00] [(0xFFFF, 0xC2)])
    [0xC200, 0x00, 0x00, 0x00, 0x25, 0xFA, 7] [(0x01FD, 0xC0), (0x01FC, 0x03), (0x01FB, 0x35)] = true := by decide +kernel

/-- V152: BRK sp=01 wraps; I set. -/
theorem test_brk_V152 : gives (start { base with pc := 0xC001, sp := 0x01, p := 0x20 } [0x00] [(0xFFFF, 0xC2)])
    [0xC200, 0x00, 0x00, 0x00, 0x24, 0xFE, 7] [(0x0101, 0xC0), (0x0100, 0x03), (0x01FF, 0x30)] = true := by decide +kernel

/-- V153: RTI. -/
theorem test_rti_V153 : gives (start { base with sp := 0xFA } [0x40] [(0x01FB, 0xA4), (0x01FC, 0x05), (0x01FD, 0xC0)])
    [0xC005, 0x00, 0x00, 0x00, 0xA4, 0xFD, 6] [] = true := by decide +kernel

/-! ## Fetching, faults, interrupts -/

/-- V150: the operand of an instruction at 0xFFFF is read from 0x0000. -/
theorem test_fetch_V150 : gives (start { base with pc := 0xFFFF } [0xA9] [(0x0000, 0x80)])
    [0x0001, 0x80, 0x00, 0x00, 0xA4, 0xFD, 2] [] = true := by decide +kernel

/-- V147: an opcode of silicon that this block does not know records the fault with `pc` one past it; the next step answers it. -/
theorem test_unknown_V147 : ∃ t, step (start base [0xEB, 0x00] []) = .next t ∧ t.pc = 0xC001 ∧
    t.fault = some (.unknownOpcode 0xEB) ∧ step t = .fault (.unknownOpcode 0xEB) := ⟨_, rfl, rfl, rfl, rfl⟩

/-- U3: the policy the spec does not specify goes on with the length and cost it is given. -/
theorem test_unknown_logAndSkip : regs (unknownOpcode (.logAndSkip 2 3) 0xEB { base with pc := 0xC001 }) =
    [0xC002, 0x00, 0x00, 0x00, 0x24, 0xFD, 3] ∧ (unknownOpcode .abort 0xEB base).fault = some (.unknownOpcode 0xEB) := by decide +kernel

/-- R307: an NMI taken at 0xC000 with vector 0xC300 pushes C0, 00 and the status with bit 4 clear. -/
theorem test_nmi_entry : gives (start { base with nmiPending := true, p := 0x31 } [] [(0xFFFA, 0x00), (0xFFFB, 0xC3)])
    [0xC300, 0x00, 0x00, 0x00, 0x35, 0xFA, 7] [(0x01FD, 0xC0), (0x01FC, 0x00), (0x01FB, 0x21)] = true := by decide +kernel

/-! ## The bus -/

/-- B1 to B22: canonical addresses at the edges of the regions. -/
theorem test_canon : canon 0x07FF = 0x07FF ∧ canon 0x0800 = 0x0000 ∧ canon 0x1FFF = 0x07FF ∧ canon 0x2008 = 0x2000 ∧
    canon 0x3FFA = 0x2002 ∧ canon 0x3FFF = 0x2007 ∧ canon 0x4000 = 0x4000 ∧ canon 0x7FFF = 0x7FFF ∧ canon 0x8000 = 0x8000 ∧
    canon 0xBFFF = 0xBFFF ∧ canon 0xC000 = 0x8000 ∧ canon 0xFFFF = 0xBFFF := by decide +kernel

/-- R331, B9: a write to any image of register 5 flips the toggle; register 7 does not. -/
theorem test_write_toggle : (memWrite 0x2005 0x12 base).w = true ∧ (memWrite 0x3FFE 0x12 base).w = true ∧
    (memWrite 0x2007 0x12 base).w = false := by decide +kernel

/-- B18, B23: a write to ROM is ignored; an address outside the space is a fault. -/
theorem test_port : (portWrite 0x8000 0x55 base) = base ∧
    (portRead 0x10000 base).2.fault = some (.addressOutOfBounds 0x10000) := by decide +kernel

/-- Writing what an unlisted cell reads as removes the entry. -/
theorem test_canonical_memory : (poke 0x0010 0x00 (poke 0x0010 0x55 base)).mem = [] := by decide +kernel

/-! ## The PPU -/

/-- A PPU position with register bytes 0 and 2. -/
def ppuAt (line : Int) (cycle : Nat) (ctrl status : Byte) : State :=
  pokes [(0x2000, ctrl), (0x2002, status)] { base with scanline := line, cycle := cycle, frameCount := 7 }

/-- Position, frame, status byte and NMI latch after one tick. -/
def tickGives (s : State) : (Int × Nat × Nat) × Byte × Bool :=
  let t := ppuTick s
  ((t.scanline, t.cycle, t.frameCount), ppuStatus t, t.nmiPending)

/-- T3: the last tick of a frame. -/
theorem test_tick_T3 : tickGives (ppuAt 260 340 0x00 0xE0) = ((-1, 0, 8), 0xE0, false) := by decide +kernel
/-- T4: the sprite flags are cleared, VBlank is not. -/
theorem test_tick_T4 : tickGives (ppuAt (-1) 0 0x00 0xE0) = ((-1, 1, 7), 0x80, false) := by decide +kernel
/-- T5: VBlank is cleared, the sprite flags are not. -/
theorem test_tick_T5 : tickGives (ppuAt 260 0 0x00 0xE0) = ((260, 1, 7), 0x60, false) := by decide +kernel
/-- T6: VBlank is set; no NMI because bit 7 of register 0 is clear. -/
theorem test_tick_T6 : tickGives (ppuAt 240 0 0x00 0x60) = ((240, 1, 7), 0xE0, false) := by decide +kernel
/-- T7: VBlank is set and the NMI requested. -/
theorem test_tick_T7 : tickGives (ppuAt 240 0 0x80 0x00) = ((240, 1, 7), 0x80, true) := by decide +kernel
/-- T8: both suppressed. -/
theorem test_tick_T8 : tickGives { ppuAt 240 0 0x80 0x00 with suppressVbl := true, suppressNmi := true } =
    ((240, 1, 7), 0x00, false) := by decide +kernel

/-- R330: the race, through the bus: a read at (240, 0) answers 0 and suppresses the set and the request of the next tick. -/
theorem test_status_race : tickGives (memRead 0x2002 (ppuAt 240 0 0x80 0x00)).2 = ((240, 1, 7), 0x00, false) := by decide +kernel

/-- R343: the example record of the spec's form matches the snapshot it was written from, and no other `a`. -/
theorem test_trace_record :
    let line := "C000                                            A:00 X:00 Y:00 P:24 SP:FD CYC:  0 SL:241".toList
    matchesRecord line (snapshot base) = true ∧ matchesRecord line (snapshot { base with a := 1 }) = false := by decide +kernel

/-! ## Witnesses: the hypotheses of the obligations can be met

One theorem per obligation that has hypotheses; several clauses or boundary values are joined by `∧`. -/

/-- A state with every field away from its reset value, in the middle of a visible line, whose PPU registers 0 and 2 are 80 and 80. -/
def busy : State :=
  start { base with a := 0x81, x := 0x01, y := 0xFF, p := 0xE7, sp := 0x00, frameCount := 3, scanline := 17, cycle := 200, w := true }
    [0xBD, 0xFF, 0x02] [(0x0010, 0xFF), (0x0011, 0x02), (0x0300, 0x7F), (0x2000, 0x80), (0x2002, 0x80), (0x4000, 0x01), (0x7FFF, 0x02)]

/-- `busy` and `base` have canonical byte arrays and meet the invariant. -/
theorem test_busy_wf : busy.mem.wf ∧ base.mem.wf := by decide +kernel

/-- See `test_busy_wf`. -/
theorem test_busy_inv : busy.Inv :=
  ⟨by decide +kernel, by decide +kernel, by decide +kernel, by decide +kernel, by decide +kernel, by decide +kernel, by decide +kernel⟩

/-- A step of `busy` answers a next state without a fault (LDA absolute,X over a page: 5 cycles). -/
theorem test_busy_steps : ∃ t, step busy = .next t ∧ t.fault = none ∧ t.a = 0x7F ∧ t.cycleCount = 5 := ⟨_, rfl, by decide +kernel⟩

/-- O3: an official opcode and a skip opcode with passed-over bytes that are not zero. -/
theorem test_witness_DecodedBytesReencode : decode [0xA9, 0x80, 0xEA] = .ok (.ldaImm 0x80, [0xEA]) ∧ classify 0xA9 = .official ∧
    decode [0x1C, 0xFF, 0x20, 0x1A] = .ok (.skip1C, [0x1A]) ∧ classify 0x1C = .skip := ⟨rfl, rfl, rfl, rfl⟩

/-- O4: opcodes next to each other on both sides. -/
theorem test_witness_UnknownOpcodesAreRefused : (0x02 : Byte) ∈ unknownOpcodes ∧ (0xFF : Byte) ∈ unknownOpcodes ∧
    (0x00 : Byte) ∉ unknownOpcodes ∧ (0xFE : Byte) ∉ unknownOpcodes := by decide +kernel

/-- O5: a fetch that touches no status register (official, and a skip opcode whose passed-over byte lies in it), and one whose
second byte is the status register. -/
theorem test_witness_StepRunsTheDecodedInstruction :
    (let s := busy
     s.fault = none ∧ s.nmiPending = false ∧ decode [peek s s.pc, peek s (s.pc + 1), peek s (s.pc + 2)] = .ok (.ldaAbx 0x02FF, []) ∧
       ∀ k < fetchLength (.ldaAbx 0x02FF), canon (s.pc + BitVec.ofNat 16 k) ≠ 0x2002) ∧
    (let s := start { base with pc := 0x2001 } [0x80, 0x60] []
     decode [peek s s.pc, peek s (s.pc + 1), peek s (s.pc + 2)] = .ok (.skip80, [0x00]) ∧
       ∀ k < fetchLength .skip80, canon (s.pc + BitVec.ofNat 16 k) ≠ 0x2002) ∧
    (let s := start { base with pc := 0x2001 } [0xA9, 0x60] []
     decode [peek s s.pc, peek s (s.pc + 1), peek s (s.pc + 2)] = .ok (.ldaImm 0x60, [0x00]) ∧
       ∃ k < fetchLength (.ldaImm 0x60), canon (s.pc + BitVec.ofNat 16 k) = 0x2002) :=
  ⟨⟨rfl, rfl, rfl, by decide +kernel⟩, ⟨rfl, by decide +kernel⟩, ⟨rfl, by decide +kernel⟩⟩

/-- O6: an unknown opcode in ROM, and one read from the status register. -/
theorem test_witness_UnknownOpcodeFaults :
    (let s := start base [0xFF] []
     s.fault = none ∧ s.nmiPending = false ∧ peek s s.pc ∈ unknownOpcodes ∧ canon s.pc ≠ 0x2002) ∧
    (let s := start { base with pc := 0x3FFA } [0x02] []
     s.fault = none ∧ s.nmiPending = false ∧ peek s s.pc ∈ unknownOpcodes ∧ canon s.pc = 0x2002) := by decide +kernel

/-- O7: states with a fault recorded. The second one would change under each request if it were not faulted (R303). -/
theorem test_witness_FaultedMachineStaysStopped :
    ({ base with fault := some (.unknownOpcode 0x02) } : State).fault = some (.unknownOpcode 0x02) ∧
    (let s := busy.withFault (.addressOutOfBounds (-1))
     s.fault = some (.addressOutOfBounds (-1)) ∧ cpuReset recommended busy ≠ busy ∧ cpuReset recommended s = s ∧
       conformanceOverride busy ≠ busy ∧ conformanceOverride s = s) := by decide +kernel

/-- O8, O14: an unfaulted state whose status has bits 5 and 4 as 1 and 0, and its step. -/
theorem test_witness_UnfaultedStepAnswersNext : busy.fault = none ∧ busy.p.getLsbD 5 = true ∧ busy.p.getLsbD 4 = false ∧
    answers (step busy) = true := by decide +kernel

/-- O9 to O11: steps that do not end in the fault state, from the ends of the position range, with the invariant. -/
theorem test_witness_StepRunsThreeTicksPerCycle :
    (InRange busy ∧ busy.Inv ∧ ∃ t, step busy = .next t ∧ t.fault = none) ∧
    InRange { base with scanline := -1, cycle := 0 } ∧ InRange { base with scanline := 260, cycle := 340 } ∧
    ∃ t, step { base with scanline := 260, cycle := 340 } = .next t ∧ t.fault = none ∧ t.frameCount = 1 :=
  ⟨⟨⟨by decide +kernel, by decide +kernel, by decide +kernel⟩, test_busy_inv, _, rfl, by decide +kernel⟩,
    ⟨by decide +kernel, by decide +kernel, by decide +kernel⟩, ⟨by decide +kernel, by decide +kernel, by decide +kernel⟩, _, rfl, by decide +kernel⟩

/-- O13: a store to ROM, seen from both ends of ROM. -/
theorem test_witness_StepKeepsProgramRom : answers (step (start { base with a := 0x55 } [0x8D, 0x00, 0x80] [])) = true ∧
    0x8000 ≤ (0x8000 : Word).toNat ∧ 0x8000 ≤ (0xFFFF : Word).toNat := by decide +kernel

/-- O15: VBlank set, the sprite flags clear. -/
theorem test_witness_SpriteFlagsStayClear : busy.mem.wf ∧ answers (step busy) = true ∧ ppuStatus busy &&& 0x60 = 0 ∧
    ppuStatus busy = 0x80 := by decide +kernel

/-- O16, O17: a pending NMI in an unfaulted state, `sp` about to wrap; the step is the entry and 21 ticks. -/
theorem test_witness_NmiEntersThroughVector :
    ({ busy with nmiPending := true } : State).mem.wf ∧ busy.fault = none ∧ busy.sp = 0x00 ∧
    answers (cpuStep { busy with nmiPending := true }) = true ∧
    ∃ t, step { busy with nmiPending := true } = .next t ∧ t.cycle = 221 ∧ t.nmiPending = false :=
  ⟨by decide +kernel, by decide +kernel, by decide +kernel, by decide +kernel, _, rfl, by decide +kernel⟩

/-- O18: an unfaulted state. -/
theorem test_witness_CpuResetSetsRegisters : busy.fault = none ∧ (cpuReset recommended busy).p = 0x34 := by decide +kernel

/-- O19, O20: images of the one size and of the sizes next to it, a canonical byte array, empty MEM_INIT. -/
theorem test_witness_LoadedRomIsMirrored : busy.fault = none ∧ (List.replicate 16384 (0xEA : Byte)).length = 16384 ∧ busy.mem.wf ∧
    (List.replicate 16383 (0xEA : Byte)).length ≠ 16384 ∧ (List.replicate 16385 (0xEA : Byte)).length ≠ 16384 ∧
    ([] : List Byte).length ≠ 16384 ∧ recommended.memInit = [] := by
  refine ⟨rfl, List.length_replicate, by decide +kernel, ?_, ?_, by decide, rfl⟩ <;> rw [List.length_replicate] <;> decide

/-- O20: a MEM_INIT that lists one RAM byte twice through a mirror, a PPU register and a storage byte: the last listed byte counts, and
the addresses at the ends of the statement's clauses. -/
theorem test_witness_PowerOnGivesStartState :
    (initialState { recommended with memInit := [(0x0801, 0x10), (0x0001, 0x11), (0x2000, 0x22), (0x7FFF, 0x33)] }).mem =
      [(0x0001, 0x11), (0x7FFF, 0x33)] ∧
    (SameStorage (0x0001 : Word).toNat (0x1801 : Word).toNat ∧ (0x1801 : Word).toNat < 0x2000) ∧
    ∀ d ∈ ([(0x2000, 0x22), (0x7FFF, 0x33)] : List (Word × Byte)), ¬SameStorage d.1.toNat (0x1801 : Word).toNat :=
  ⟨by decide +kernel, by simp [SameStorage], by simp [SameStorage]⟩

/-- See `test_witness_PowerOnGivesStartState`: an address with no listed byte, and the ends of the clauses. -/
theorem test_witness_PowerOn_clauses :
    (∀ c ∈ ([(0x0001, 0x11), (0x7FFF, 0x33)] : List (Word × Byte)), ¬SameStorage c.1.toNat (0x4000 : Word).toNat) ∧
    0x2000 ≤ (0x2000 : Word).toNat ∧ (0x3FFF : Word).toNat < 0x4000 ∧ 0x4000 ≤ (0x4000 : Word).toNat ∧
    (0x7FFF : Word).toNat < 0x8000 ∧ 0x8000 ≤ (0x8000 : Word).toNat :=
  ⟨by simp [SameStorage], by decide, by decide, by decide, by decide, by decide⟩

/-- O21: the integers on both sides of both ends of the space. -/
theorem test_witness_PortOutOfSpaceFaults : busy.fault = none ∧ ((-1 : Int) < 0 ∨ 65535 < (-1 : Int)) ∧
    ((65536 : Int) < 0 ∨ 65535 < (65536 : Int)) ∧ (0 : Int) = (0x0000 : Word).toNat ∧ (65535 : Int) = (0xFFFF : Word).toNat := by
  decide +kernel

/-- O22: storing addresses at region ends with a mirror; ROM and an image of the status register, which do not store. -/
theorem test_witness_BusWriteStoresOneCell :
    (Writable 0x1FFF ∧ SameStorage 0x1FFF 0x07FF) ∧ (Writable 0x3FFF ∧ SameStorage 0x3FFF 0x2007) ∧
    (Writable 0x7FFF ∧ ¬SameStorage 0x7FFF 0x7FFE) ∧ ¬Writable 0x8000 ∧ ¬Writable 0xFFFF ∧ ¬Writable 0x2002 ∧ ¬Writable 0x3FFA := by
  simp [Writable, SameStorage]

/-- See `test_witness_BusWriteStoresOneCell`. -/
theorem test_witness_BusWrite_bytes : busy.mem.wf ∧ peek (memWrite 0x1FFF 0x42 busy) 0x07FF = 0x42 ∧
    peek (memWrite 0x3FFF 0x42 busy) 0x2007 = 0x42 ∧ peek (memWrite 0xFFFF 0x42 busy) 0xBFFF = peek busy 0xBFFF ∧
    peek (memWrite 0x3FFA 0x42 busy) 0x2002 = 0x80 := by decide +kernel

/-- O23: an address next to the status register, and one of its images. -/
theorem test_witness_ReadsAreIdempotentButStatus :
    ¬(0x2000 ≤ (0x2003 : Word).toNat ∧ (0x2003 : Word).toNat < 0x4000 ∧ (0x2003 : Word).toNat % 8 = 2) ∧
    ¬(0x2000 ≤ (0x4002 : Word).toNat ∧ (0x4002 : Word).toNat < 0x4000 ∧ (0x4002 : Word).toNat % 8 = 2) ∧
    (memRead 0x200A busy).1 = 0x80 ∧ ppuStatus (memRead 0x200A busy).2 = 0x00 := by decide +kernel

/-- O24, O30: the first and the last image of the status register, at the race position and away from it. -/
theorem test_witness_StatusReadClearsVBlank : busy.mem.wf ∧ (ppuAt 240 0 0x80 0xE0).mem.wf ∧
    (ppuAt 240 0 0x80 0xE0).scanline = 240 ∧ (ppuAt 240 0 0x80 0xE0).cycle = 0 ∧ canon 0x2002 = 0x2002 ∧ canon 0x3FFA = 0x2002 ∧
    0x2000 ≤ (0x2002 : Word).toNat ∧ (0x2002 : Word).toNat % 8 = 2 ∧ (0x3FFA : Word).toNat < 0x4000 ∧ (0x3FFA : Word).toNat % 8 = 2 ∧
    (memRead 0x3FFA (ppuAt 240 0 0x80 0xE0)).2.suppressVbl = true ∧ (memRead 0x3FFA busy).2.suppressVbl = false := by decide +kernel

/-- O25, O31: positions in range, at both ends. -/
theorem test_witness_TickAdvancesCounters : InRange (ppuAt (-1) 0 0x00 0x00) ∧ InRange (ppuAt 260 340 0x00 0x00) := by
  unfold InRange; decide +kernel

/-- O26: the set position, VBlank suppressed or not, NMI enabled or not. -/
theorem test_witness_VBlankSetTick : (ppuAt 240 0 0x80 0x60).mem.wf ∧ (ppuAt 240 0 0x80 0x60).scanline = 240 ∧
    (ppuAt 240 0 0x80 0x60).cycle = 0 ∧ (ppuTick (ppuAt 240 0 0x80 0x60)).nmiPending = true ∧
    (ppuTick { ppuAt 240 0 0x80 0x60 with suppressNmi := true }).nmiPending = false := by decide +kernel

/-- O27: the clear position, and the position just after the set with VBlank set. -/
theorem test_witness_VBlankClearTick : (ppuAt 260 0 0x00 0xE0).mem.wf ∧ (ppuAt 260 0 0x00 0xE0).scanline = 260 ∧
    (ppuAt 260 0 0x00 0xE0).cycle = 0 ∧ (ppuAt 240 1 0x00 0x80).mem.wf ∧ (ppuAt 240 1 0x00 0x80).scanline = 240 ∧
    (ppuAt 240 1 0x00 0x80).cycle = 1 ∧ (peek (ppuAt 240 1 0x00 0x80) 0x2002).getLsbD 7 = true := by decide +kernel

/-- O28: the sprite clear position. -/
theorem test_witness_SpriteClearTick : (ppuAt (-1) 0 0x00 0xE0).mem.wf ∧ (ppuAt (-1) 0 0x00 0xE0).scanline = -1 ∧
    (ppuAt (-1) 0 0x00 0xE0).cycle = 0 := by decide +kernel

/-- O29: positions next to the events, the scroll latch among them. -/
theorem test_witness_OtherTicksOnlyCount :
    (∀ s ∈ [ppuAt 240 1 0x80 0xE0, ppuAt 239 340 0x80 0xE0, ppuAt 241 0 0x80 0xE0, ppuAt (-1) 303 0x80 0xE0, ppuAt 260 340 0x80 0xE0],
      ¬(s.cycle = 0 ∧ (s.scanline = 240 ∨ s.scanline = 260 ∨ s.scanline = -1))) := by decide +kernel

/-- O32: the numbers read as zero-page pointers, for every state; here one that wraps. -/
theorem test_witness_AddressingModesLocate (s : State) : ∃ zero : Nat → Nat,
    ∀ k, zero k = (peek s (BitVec.ofNat 16 (k % 256))).toNat + 256 * (peek s (BitVec.ofNat 16 ((k + 1) % 256))).toNat :=
  ⟨_, fun _ => rfl⟩

/-- O33, O35, O36, O38: every read-type form answers a next state at `busy`, whatever the operand; its operand and results exist as the
statements name them. -/
theorem test_witness_read_forms : ((readForms 0x80 0x10 0x02FF).all (fun f => answers (exec f.instr busy))) = true ∧
    (readForms 0x80 0x10 0x02FF).length = 74 ∧ (readSource (.mem (.izy 0x10)) busy).crossed = true ∧
    (readSource (.mem (.izx 0x10)) busy).crossed = false := by decide +kernel

/-- O34: the results of AND, ORA, EOR bit by bit. -/
theorem test_witness_LogicCombinesWithAccumulator :
    (∀ k < 8, (0x01 : Byte).getLsbD k = ((0x81 : Byte).getLsbD k && (0x7F : Byte).getLsbD k)) ∧
    (∀ k < 8, (0xFF : Byte).getLsbD k = ((0x81 : Byte).getLsbD k || (0x7F : Byte).getLsbD k)) ∧
    (∀ k < 8, (0xFE : Byte).getLsbD k = ((0x81 : Byte).getLsbD k ^^ (0x7F : Byte).getLsbD k)) := by decide +kernel

/-- O39: a form of ADC and one of SBC with their next states, and the status with D set and clear. -/
theorem test_witness_ArithmeticIgnoresDecimal :
    (∃ t, exec (.adcIzy 0x10) busy = .next t) ∧ (∃ t, exec (.sbcAbx 0x02FF) busy = .next t) ∧
    ({ d := some true } : FlagEffect).Holds 0xE7 0xEF ∧ ({ d := some false } : FlagEffect).Holds 0xE7 0xE7 :=
  ⟨⟨_, rfl⟩, ⟨_, rfl⟩, by simp only [FlagEffect.Holds]; decide, by simp only [FlagEffect.Holds]; decide⟩

/-- O40, O44, O46, O57, O58: every storing form answers a next state at `busy`; effective addresses that are RAM, ROM, the status
register and PPU register 5. -/
theorem test_witness_storing_forms :
    (storeForms 0x10 0x02FF ++ modifyForms 0x10 0x02FF).all (fun f => answers (exec f.instr busy)) = true ∧
    (storeForms 0x10 0x02FF).length = 13 ∧ (modifyForms 0x10 0x02FF).length = 24 ∧
    (locate (.izy 0x10) busy).ea = 0x03FE ∧ canon (locate (.abs 0xFFFF) busy).ea = 0xBFFF ∧
    canon (locate (.abx 0x2001) busy).ea = 0x2002 ∧ canon (locate (.abs 0x3FFD) busy).ea = 0x2005 ∧
    answers (exec (.rolAbx 0x2001) busy) = true := by decide +kernel

/-- O43, O48: a canonical byte array, and the pushing halves. -/
theorem test_witness_PhpThenPlpNormalises : busy.mem.wf ∧ answers (exec .php busy) = true ∧ answers (exec (.jsr 0xC006) busy) = true := by
  decide +kernel

/-- O45: the results at both ends of the byte. -/
theorem test_witness_IncDecRegisterByOne : (0x00 : Byte) = BitVec.ofNat 8 ((0xFF : Byte).toNat + 1) ∧
    (0xFF : Byte) = BitVec.ofNat 8 ((0x00 : Byte).toNat + 255) := by decide +kernel

/-- O47: pointers whose two bytes miss the status register (one wraps in its page), and pointers with the first or the second in it. -/
theorem test_witness_JumpsSetProgramCounter :
    (0x0200 : Word) = BitVec.ofNat 16 ((0x02FF : Word).toNat / 256 * 256 + ((0x02FF : Word).toNat + 1) % 256) ∧
    canon 0x02FF ≠ 0x2002 ∧ canon 0x0200 ≠ 0x2002 ∧
    (0x2003 : Word) = BitVec.ofNat 16 ((0x2002 : Word).toNat / 256 * 256 + ((0x2002 : Word).toNat + 1) % 256) ∧ canon 0x2002 = 0x2002 ∧
    (0x2002 : Word) = BitVec.ofNat 16 ((0x2001 : Word).toNat / 256 * 256 + ((0x2001 : Word).toNat + 1) % 256) ∧ canon 0x2001 ≠ 0x2002 ∧
    (0xFFFF : Word) = BitVec.ofNat 16 ((0x0000 : Word).toNat + 65535) := by decide +kernel

/-- O49: each branch is taken from one status and not from the other; targets at both ends of the offset. -/
theorem test_witness_BranchesTestOneFlag :
    (branchForms 0x80).all (fun f => f.cond 0x00 != f.cond 0xC3) = true ∧
    (0xBF80 : Word) = BitVec.ofInt 16 ((0xC000 : Word).toNat + (0x80 : Byte).toInt) ∧
    (0xC07F : Word) = BitVec.ofInt 16 ((0xC000 : Word).toNat + (0x7F : Byte).toInt) := by decide +kernel

/-- O51: the return address past the padding byte, at the wrap. -/
theorem test_witness_BrkEntersThroughVector : (0x0000 : Word) = ({ busy with pc := 0xFFFF } : State).pc + 1 ∧
    answers (exec .brk { busy with pc := 0xFFFF }) = true := by decide +kernel

/-- O53: the skip forms are 27 and each answers a next state. -/
theorem test_witness_SkipOpcodesOnlyAdvance : skipForms.length = 27 ∧ skipForms.all (fun f => answers (exec f.instr busy)) = true := by
  decide +kernel

/-- O54, O55: an instruction with a bus side effect (ASL on the status register) that answers a next state. -/
theorem test_witness_InstructionsCannotMovePpu : ∃ t, exec (.aslAbs 0x2002) busy = .next t ∧ t.cycle = 200 := ⟨_, rfl, by decide +kernel⟩

/-- O56: read forms inside and outside the lists of the frame, at the status register and away from it. -/
theorem test_witness_ReadInstructionsFrame :
    (∃ f ∈ ldxForms 0x80 0x10 0x2002, ∃ t, exec f.instr busy = .next t ∧ f.source = .mem (.abs 0x2002)) ∧
    (∃ f ∈ adcForms 0x80 0x10 0x2002, ∃ t, exec f.instr busy = .next t ∧ f.source = .mem (.zp 0x10) ∧ canon (locate (.zp 0x10) busy).ea ≠ 0x2002) :=
  ⟨⟨⟨.ldxAbs 0x2002, [0xAE, lo8 0x2002, hi8 0x2002], .mem (.abs 0x2002), 4⟩, by simp [ldxForms], _, rfl, rfl⟩,
    ⟨⟨.adcZp 0x10, [0x65, 0x10], .mem (.zp 0x10), 3⟩, by simp [adcForms], _, rfl, rfl, by decide +kernel⟩⟩

/-- O59: the stack instructions of the list answer next states; `sp` wraps in the middle of the pushes. -/
theorem test_witness_StackInstructionsFrame :
    ([.pha, .php, .jsr 0xC006, .brk, .pla, .plp, .rts, .rti] : List Instr).all (fun i => answers (exec i busy)) = true ∧
    stackTop busy 0 = 0x0100 ∧ stackTop busy 1 = 0x01FF ∧ stackPull busy 1 = 0x0101 := by decide +kernel

/-- O41, O50, O52, O60: the instructions without a data access, and RTI, answer next states. -/
theorem test_witness_RegisterInstructionsFrame :
    (registerForms 0xC006 ++ (branchForms 0x80).map BranchForm.instr ++ skipForms.map SkipForm.instr).length = 58 ∧
    (.rti :: (registerForms 0xC006 ++ (branchForms 0x80).map BranchForm.instr ++ skipForms.map SkipForm.instr)).all
      (fun i => answers (exec i busy)) = true := by decide +kernel

end Sys2Proof.Tests
end

namespace Sys2Proof.Proofs

open Sys2Proof.Machine

/-! ## What no instruction reaches (R7, R306, R311) -/

/-- Settles O54: an instruction only changes CPU registers and makes bus accesses, and neither reaches the PPU position, the frame
counter, the NMI latch or the fault record. -/
theorem instructionsCannotMovePpu : Obligations.InstructionsCannotMovePpu := by
  intro i s t h
  have hreach : BusReach s t := busReach_exec h
  exact hreach.outside

end Sys2Proof.Proofs

namespace Sys2Proof.Proofs
open Sys2Proof Sys2Proof.Machine Sys2Proof.Claims

/-! ## Status bits that a flag computation leaves (R16) -/

/-- `q` agrees with `p` on the bits `lo` to `hi`. -/
def KeepsBits (lo hi : Nat) (p q : Byte) : Prop := ∀ k, lo ≤ k → k ≤ hi → q.getLsbD k = p.getLsbD k

theorem KeepsBits.refl (lo hi : Nat) (p : Byte) : KeepsBits lo hi p p := fun _ _ _ => rfl

theorem KeepsBits.trans {lo hi : Nat} {p q r : Byte} (h : KeepsBits lo hi p q) (h' : KeepsBits lo hi q r) :
    KeepsBits lo hi p r := fun k h1 h2 => (h' k h1 h2).trans (h k h1 h2)

theorem KeepsBits.mono {lo hi lo' hi' : Nat} {p q : Byte} (h : KeepsBits lo hi p q) (hl : lo ≤ lo' := by decide)
    (hh : hi' ≤ hi := by decide) : KeepsBits lo' hi' p q := fun k h1 h2 => h k (hl.trans h1) (h2.trans hh)

theorem keepsBits_setC (v : Bool) (p : Byte) : KeepsBits 1 7 p (setC v p) := fun k h1 h2 => by
  rw [getLsbD_setC v p k (by omega), if_neg (by omega)]

theorem keepsBits_setZ (v : Bool) (p : Byte) : KeepsBits 2 7 p (setZ v p) := fun k h1 h2 => by
  rw [getLsbD_setZ v p k (by omega), if_neg (by omega)]

theorem keepsBits_setI (v : Bool) (p : Byte) : KeepsBits 3 7 p (setI v p) := fun k h1 h2 => by
  rw [getLsbD_setI v p k (by omega), if_neg (by omega)]

theorem keepsBits_setD (v : Bool) (p : Byte) : KeepsBits 4 7 p (setD v p) := fun k h1 h2 => by
  rw [getLsbD_setD v p k (by omega), if_neg (by omega)]

theorem keepsBits_setV (v : Bool) (p : Byte) : KeepsBits 0 5 p (setV v p) := fun k h1 h2 => by
  rw [getLsbD_setV v p k (by omega), if_neg (by omega)]

theorem keepsBits_setN (v : Bool) (p : Byte) : KeepsBits 0 6 p (setN v p) := fun k h1 h2 => by
  rw [getLsbD_setN v p k (by omega), if_neg (by omega)]

theorem keepsBits_setZN (v p : Byte) : KeepsBits 2 6 p (setZN v p) :=
  (keepsBits_setZ _ p).mono.trans (keepsBits_setN _ _).mono

/-- ADC and SBC write C, V, Z, N. -/
theorem keepsBits_setCVZN (c v : Bool) (r p : Byte) : KeepsBits 2 5 p (setZN r (setV v (setC c p))) :=
  ((keepsBits_setC c p).mono.trans (keepsBits_setV v _).mono).trans (keepsBits_setZN r _).mono

/-- Comparisons and shifts write C, Z, N. -/
theorem keepsBits_setCZN (c : Bool) (r p : Byte) : KeepsBits 2 6 p (setZN r (setC c p)) :=
  (keepsBits_setC c p).mono.trans (keepsBits_setZN r _)

theorem keepsBits_bitFlags (a m p : Byte) : KeepsBits 2 5 p (bitFlags a m p) :=
  ((keepsBits_setZ _ p).mono.trans (keepsBits_setN _ _).mono).trans (keepsBits_setV _ _).mono

/-! ## What the two bus operations leave of the CPU registers -/

theorem memRead_snd_frame (addr : Word) (s : State) : (memRead addr s).2 =
    { s with mem := (memRead addr s).2.mem, w := (memRead addr s).2.w
             suppressVbl := (memRead addr s).2.suppressVbl, suppressNmi := (memRead addr s).2.suppressNmi } := by
  rw [memRead_snd]
  split <;> rfl

theorem memWrite_frame (addr : Word) (v : Byte) (s : State) : memWrite addr v s =
    { s with mem := (memWrite addr v s).mem, w := (memWrite addr v s).w } := by
  rw [memWrite_eq]
  split <;> rfl

@[simp] theorem memRead_snd_a (addr : Word) (s : State) : (memRead addr s).2.a = s.a := by rw [memRead_snd_frame]
@[simp] theorem memRead_snd_x (addr : Word) (s : State) : (memRead addr s).2.x = s.x := by rw [memRead_snd_frame]
@[simp] theorem memRead_snd_y (addr : Word) (s : State) : (memRead addr s).2.y = s.y := by rw [memRead_snd_frame]
@[simp] theorem memRead_snd_pc (addr : Word) (s : State) : (memRead addr s).2.pc = s.pc := by rw [memRead_snd_frame]
@[simp] theorem memRead_snd_sp (addr : Word) (s : State) : (memRead addr s).2.sp = s.sp := by rw [memRead_snd_frame]
@[simp] theorem memRead_snd_p (addr : Word) (s : State) : (memRead addr s).2.p = s.p := by rw [memRead_snd_frame]
@[simp] theorem memRead_snd_cycleCount (addr : Word) (s : State) : (memRead addr s).2.cycleCount = s.cycleCount := by
  rw [memRead_snd_frame]

@[simp] theorem memWrite_a (addr : Word) (v : Byte) (s : State) : (memWrite addr v s).a = s.a := by rw [memWrite_frame]
@[simp] theorem memWrite_x (addr : Word) (v : Byte) (s : State) : (memWrite addr v s).x = s.x := by rw [memWrite_frame]
@[simp] theorem memWrite_y (addr : Word) (v : Byte) (s : State) : (memWrite addr v s).y = s.y := by rw [memWrite_frame]
@[simp] theorem memWrite_pc (addr : Word) (v : Byte) (s : State) : (memWrite addr v s).pc = s.pc := by rw [memWrite_frame]
@[simp] theorem memWrite_sp (addr : Word) (v : Byte) (s : State) : (memWrite addr v s).sp = s.sp := by rw [memWrite_frame]
@[simp] theorem memWrite_p (addr : Word) (v : Byte) (s : State) : (memWrite addr v s).p = s.p := by rw [memWrite_frame]

/-! ## The fields no instruction reads (R26, R306, R380) -/

/-- Other values for the NMI latch, the frame counter and the last cycle count. -/
def withHidden (latch : Bool) (frame cycles : Nat) (s : State) : State :=
  { s with nmiPending := latch, frameCount := frame, cycleCount := cycles }

section
variable (latch : Bool) (frame cycles : Nat)

theorem memRead_withHidden (addr : Word) (s : State) : memRead addr (withHidden latch frame cycles s) =
    ((memRead addr s).1, withHidden latch frame cycles (memRead addr s).2) := by
  unfold memRead
  split <;> rfl

theorem memWrite_withHidden (addr : Word) (v : Byte) (s : State) :
    memWrite addr v (withHidden latch frame cycles s) = withHidden latch frame cycles (memWrite addr v s) := by
  rw [memWrite_eq, memWrite_eq]
  split <;> rfl

theorem locate_withHidden (m : MemMode) (s : State) : locate m (withHidden latch frame cycles s) =
    { locate m s with state := withHidden latch frame cycles s } := by
  cases m <;> simp only [locate, indexed, zpPointer_eq] <;> rfl

theorem readSource_withHidden (src : Source) (s : State) : readSource src (withHidden latch frame cycles s) =
    { readSource src s with state := withHidden latch frame cycles (readSource src s).state } := by
  cases src with
  | imm v => rfl
  | mem m => simp only [readSource, locate_withHidden, memRead_withHidden, locate_state]

end

/-! ## What a read-type instruction does with its operand -/

/-- `g` changes the registers `a`, `x`, `y` and the flags C, Z, V, N at most, and does not look at the hidden fields. -/
structure OperandUse (g : Byte → State → State) : Prop where
  frame : ∀ v s, g v s = { s with a := (g v s).a, x := (g v s).x, y := (g v s).y, p := (g v s).p }
  flags : ∀ v s, KeepsBits 2 5 s.p (g v s).p
  blind : ∀ v s latch fr cycles, g v (withHidden latch fr cycles s) = withHidden latch fr cycles (g v s)

theorem operandUse_writeA : OperandUse writeA := ⟨fun _ _ => rfl, fun _ _ => (keepsBits_setZN _ _).mono, fun _ _ _ _ _ => rfl⟩
theorem operandUse_writeX : OperandUse writeX := ⟨fun _ _ => rfl, fun _ _ => (keepsBits_setZN _ _).mono, fun _ _ _ _ _ => rfl⟩
theorem operandUse_writeY : OperandUse writeY := ⟨fun _ _ => rfl, fun _ _ => (keepsBits_setZN _ _).mono, fun _ _ _ _ _ => rfl⟩
theorem operandUse_andA : OperandUse andA := ⟨fun _ _ => rfl, fun _ _ => (keepsBits_setZN _ _).mono, fun _ _ _ _ _ => rfl⟩
theorem operandUse_oraA : OperandUse oraA := ⟨fun _ _ => rfl, fun _ _ => (keepsBits_setZN _ _).mono, fun _ _ _ _ _ => rfl⟩
theorem operandUse_eorA : OperandUse eorA := ⟨fun _ _ => rfl, fun _ _ => (keepsBits_setZN _ _).mono, fun _ _ _ _ _ => rfl⟩
theorem operandUse_bitTest : OperandUse bitTest := ⟨fun _ _ => rfl, fun _ _ => keepsBits_bitFlags _ _ _, fun _ _ _ _ _ => rfl⟩
theorem operandUse_adcA : OperandUse adcA := ⟨fun _ _ => rfl, fun _ _ => keepsBits_setCVZN _ _ _ _, fun _ _ _ _ _ => rfl⟩
theorem operandUse_sbcA : OperandUse sbcA := ⟨fun _ _ => rfl, fun _ _ => keepsBits_setCVZN _ _ _ _, fun _ _ _ _ _ => rfl⟩
theorem operandUse_cmpA : OperandUse cmpA := ⟨fun _ _ => rfl, fun _ _ => (keepsBits_setCZN _ _ _).mono, fun _ _ _ _ _ => rfl⟩
theorem operandUse_cmpX : OperandUse cmpX := ⟨fun _ _ => rfl, fun _ _ => (keepsBits_setCZN _ _ _).mono, fun _ _ _ _ _ => rfl⟩
theorem operandUse_cmpY : OperandUse cmpY := ⟨fun _ _ => rfl, fun _ _ => (keepsBits_setCZN _ _ _).mono, fun _ _ _ _ _ => rfl⟩

/-- A result computation of the read-modify-write instructions: it keeps I, D, bits 4 and 5, and V. -/
def KeepsIDV (f : Byte → Byte → Alu) : Prop := ∀ v p, KeepsBits 2 6 p (f v p).p

theorem keepsIDV_incr : KeepsIDV incr := fun _ _ => keepsBits_setZN _ _
theorem keepsIDV_decr : KeepsIDV decr := fun _ _ => keepsBits_setZN _ _
theorem keepsIDV_asl : KeepsIDV asl := fun _ _ => keepsBits_setCZN _ _ _
theorem keepsIDV_lsr : KeepsIDV lsr := fun _ _ => keepsBits_setCZN _ _ _
theorem keepsIDV_rol : KeepsIDV rol := fun _ _ => keepsBits_setCZN _ _ _
theorem keepsIDV_ror : KeepsIDV ror := fun _ _ => keepsBits_setCZN _ _ _

/-! ## What every instruction does to the status register, the cycle count and the hidden fields, said once -/

/-- Bits 5 and 4 are 1 and 0 in `q` if they are in `p` (R15). -/
def KeepsNormalForm (p q : Byte) : Prop :=
  p.getLsbD 5 = true → p.getLsbD 4 = false → q.getLsbD 5 = true ∧ q.getLsbD 4 = false

theorem KeepsBits.normalForm {lo hi : Nat} {p q : Byte} (h : KeepsBits lo hi p q) (hl : lo ≤ 4 := by decide)
    (hh : 5 ≤ hi := by decide) : KeepsNormalForm p q := fun h5 h4 =>
  ⟨(h 5 (hl.trans (by decide)) hh).trans h5, (h 4 hl (le_trans (by decide) hh)).trans h4⟩

/-- A pulled status byte is in normal form, whatever was pulled (R15). -/
theorem keepsNormalForm_statusPulled (p v : Byte) : KeepsNormalForm p (statusPulled v) := fun _ _ => by
  constructor <;> simp [statusPulled]

/-- The hidden fields make no difference to `v`. -/
def Blind {α : Type} (v : State → α) : Prop := ∀ s latch frame cycles, v (withHidden latch frame cycles s) = v s

/-- Run from `s`, the meaning `m` ends in `u` after `n` cycles, 2 to 7; it keeps the normal form of the status, and what is in the
hidden fields makes no difference. -/
structure EndsIn (m : State → Host.Outcome State Fault Refusal) (s : State) (n : Nat) (u : State) : Prop where
  eq : m s = done n u
  atLeast : 2 ≤ n
  atMost : n ≤ 7
  status : KeepsNormalForm s.p u.p
  blind : ∀ latch frame cycles, m (withHidden latch frame cycles s) = done n (withHidden latch frame cycles u)

/-- What the meaning of every instruction is, from every state. -/
def Regular (m : State → Host.Outcome State Fault Refusal) : Prop := ∀ s, ∃ n u, EndsIn m s n u

/-- A meaning that always takes `n` cycles. -/
theorem regular_done {n : Nat} {f : State → State} (hs : ∀ s, KeepsNormalForm s.p (f s).p)
    (hb : ∀ s latch frame cycles, done n (f (withHidden latch frame cycles s)) = done n (withHidden latch frame cycles (f s)))
    (hn : 2 ≤ n ∧ n ≤ 7 := by decide) : Regular (fun s => done n (f s)) := fun s =>
  ⟨n, f s, rfl, hn.1, hn.2, hs s, hb s⟩

theorem regular_of_keepsBits {n lo hi : Nat} {f : State → State} (hs : ∀ s, KeepsBits lo hi s.p (f s).p)
    (hb : ∀ s latch frame cycles, f (withHidden latch frame cycles s) = withHidden latch frame cycles (f s))
    (hn : 2 ≤ n ∧ n ≤ 7 := by decide) (hl : lo ≤ 4 := by decide) (hh : 5 ≤ hi := by decide) : Regular (fun s => done n (f s)) :=
  regular_done (fun s => (hs s).normalForm hl hh) (fun s _ _ _ => by rw [hb s]) hn

theorem regular_withSource {n : Nat} {src : Source} {g : Byte → State → State} (hg : OperandUse g)
    (hn : 2 ≤ n ∧ n ≤ 6 := by decide) : Regular (withSource n src g) := fun s => by
  have hc : (readSource src s).crossed.toNat ≤ 1 := Bool.toNat_le _
  have hp : (readSource src s).state.p = s.p := by cases src <;> simp [readSource]
  refine ⟨_, _, rfl, by omega, by omega, hp ▸ (hg.flags _ _).normalForm, fun latch frame cycles => ?_⟩
  simp only [withSource, readSource_withHidden, hg.blind]

theorem regular_storeAt {n : Nat} {m : MemMode} {v : State → Byte} (hv : Blind v)
    (hn : 2 ≤ n ∧ n ≤ 7 := by decide) : Regular (fun s => storeAt n m (v s) s) := fun s => by
  refine ⟨_, _, rfl, hn.1, hn.2, ?_, fun latch frame cycles => ?_⟩
  · exact KeepsBits.normalForm (lo := 4) (hi := 5) (by simp [KeepsBits.refl])
  · simp only [storeAt, locate_withHidden, memWrite_withHidden, hv s, locate_state]

theorem regular_modifyAt {n : Nat} {m : MemMode} {f : Byte → Byte → Alu} (hf : KeepsIDV f)
    (hn : 2 ≤ n ∧ n ≤ 7 := by decide) : Regular (modifyAt n m f) := fun s => by
  refine ⟨_, _, rfl, hn.1, hn.2, (hf _ _).normalForm, fun latch frame cycles => ?_⟩
  simp only [modifyAt, locate_withHidden, memRead_withHidden, memWrite_withHidden, locate_state]
  rfl

theorem regular_modifyA {n : Nat} {f : Byte → Byte → Alu} (hf : KeepsIDV f) (hn : 2 ≤ n ∧ n ≤ 7 := by decide) :
    Regular (modifyA n f) :=
  regular_of_keepsBits (fun _ => hf _ _) (fun _ _ _ _ => rfl) hn

theorem branch_false (n : Nat) (off : Byte) (s : State) : branch n false off s = done n s := rfl

theorem branch_true (n : Nat) (off : Byte) (s : State) : branch n true off s =
    done (n + 1 + (pageCrossed (relativeTarget off s) s.pc).toNat) (s.withPc (relativeTarget off s)) := rfl

theorem regular_branch {n : Nat} {cond : State → Bool} {off : Byte}
    (hb : Blind cond) (hn : 2 ≤ n ∧ n ≤ 5 := by decide) : Regular (fun s => branch n (cond s) off s) := fun s => by
  cases h : cond s
  case false =>
    refine ⟨n, s, by simp only [h, branch_false], hn.1, by omega, (KeepsBits.refl 4 5 _).normalForm, fun _ _ _ => ?_⟩
    simp only [hb s, h, branch_false]
  case true =>
    have hc : (pageCrossed (relativeTarget off s) s.pc).toNat ≤ 1 := Bool.toNat_le _
    refine ⟨n + 1 + (pageCrossed (relativeTarget off s) s.pc).toNat, s.withPc (relativeTarget off s), by simp only [h, branch_true],
      by omega, by omega, (KeepsBits.refl 4 5 _).normalForm, fun _ _ _ => ?_⟩
    simp only [hb s, h, branch_true]
    rfl

theorem regular_skipBytes {length n : Nat} (hn : 2 ≤ n ∧ n ≤ 7 := by decide) : Regular (skipBytes length n) :=
  regular_of_keepsBits (fun _ => KeepsBits.refl 4 5 _) (fun _ _ _ _ => rfl) hn

theorem regular_pla : Regular (exec .pla) :=
  regular_of_keepsBits (fun s => by rw [pull_eq]; exact keepsBits_setZN _ _) (fun s _ _ _ => by simp only [pull_eq]; rfl)

theorem regular_plp : Regular (exec .plp) :=
  regular_done (fun _ => keepsNormalForm_statusPulled _ _) (fun s _ _ _ => by simp only [pull_eq]; rfl)

theorem regular_jmpInd (ptr : Word) : Regular (exec (.jmpInd ptr)) :=
  regular_of_keepsBits (fun s => by simpa [indirectTarget] using KeepsBits.refl 4 5 s.p)
    (fun s _ _ _ => by simp only [indirectTarget, memRead_withHidden]; rfl)

theorem regular_rts : Regular (exec .rts) :=
  regular_of_keepsBits (fun s => by rw [pullWord_eq]; exact KeepsBits.refl 4 5 _) (fun s _ _ _ => by simp only [pullWord_eq]; rfl)

theorem regular_brk : Regular (exec .brk) :=
  regular_done (f := fun s => interruptEntry (s.pc + 1) (statusFromInstr s.p) 0xFFFE s)
    (fun s => by
      rw [interruptEntry_eq (by decide) (by decide)]
      exact (keepsBits_setI _ _).normalForm)
    (fun s _ _ _ => by simp only [interruptEntry_eq (vector := 0xFFFE) (by decide) (by decide)]; rfl)

theorem regular_rti : Regular (exec .rti) :=
  regular_done (fun s => by rw [interruptReturn_eq]; exact keepsNormalForm_statusPulled _ _)
    (fun s _ _ _ => by simp only [interruptReturn_eq]; rfl)

theorem regular_push {v : State → Byte} (hv : Blind v) : Regular (fun s => done 3 (push (v s) s)) :=
  regular_of_keepsBits (fun s => by rw [push_eq]; exact KeepsBits.refl 4 5 _) (fun s _ _ _ => by simp only [push_eq, hv s]; rfl)

theorem regular_jsr (addr : Word) : Regular (exec (.jsr addr)) :=
  regular_of_keepsBits (fun s => by rw [pushWord_eq]; exact KeepsBits.refl 4 5 _) (fun s _ _ _ => by simp only [pushWord_eq]; rfl)

/-- Every instruction is regular, by the operation it is a call of. -/
theorem regular_exec (i : Instr) : Regular (exec i) := by
  cases i
  case ldaImm | ldaZp | ldaZpx | ldaAbs | ldaAbx | ldaAby | ldaIzx | ldaIzy => exact regular_withSource operandUse_writeA
  case ldxImm | ldxZp | ldxZpy | ldxAbs | ldxAby => exact regular_withSource operandUse_writeX
  case ldyImm | ldyZp | ldyZpx | ldyAbs | ldyAbx => exact regular_withSource operandUse_writeY
  case staZp | staZpx | staAbs | staAbx | staAby | staIzx | staIzy | stxZp | stxZpy | stxAbs | styZp | styZpx | styAbs =>
    exact regular_storeAt (fun _ _ _ _ => rfl)
  case andImm | andZp | andZpx | andAbs | andAbx | andAby | andIzx | andIzy => exact regular_withSource operandUse_andA
  case oraImm | oraZp | oraZpx | oraAbs | oraAbx | oraAby | oraIzx | oraIzy => exact regular_withSource operandUse_oraA
  case eorImm | eorZp | eorZpx | eorAbs | eorAbx | eorAby | eorIzx | eorIzy => exact regular_withSource operandUse_eorA
  case bitZp | bitAbs => exact regular_withSource operandUse_bitTest
  case adcImm | adcZp | adcZpx | adcAbs | adcAbx | adcAby | adcIzx | adcIzy => exact regular_withSource operandUse_adcA
  case sbcImm | sbcZp | sbcZpx | sbcAbs | sbcAbx | sbcAby | sbcIzx | sbcIzy => exact regular_withSource operandUse_sbcA
  case cmpImm | cmpZp | cmpZpx | cmpAbs | cmpAbx | cmpAby | cmpIzx | cmpIzy => exact regular_withSource operandUse_cmpA
  case cpxImm | cpxZp | cpxAbs => exact regular_withSource operandUse_cmpX
  case cpyImm | cpyZp | cpyAbs => exact regular_withSource operandUse_cmpY
  case incZp | incZpx | incAbs | incAbx => exact regular_modifyAt keepsIDV_incr
  case decZp | decZpx | decAbs | decAbx => exact regular_modifyAt keepsIDV_decr
  case aslZp | aslZpx | aslAbs | aslAbx => exact regular_modifyAt keepsIDV_asl
  case lsrZp | lsrZpx | lsrAbs | lsrAbx => exact regular_modifyAt keepsIDV_lsr
  case rolZp | rolZpx | rolAbs | rolAbx => exact regular_modifyAt keepsIDV_rol
  case rorZp | rorZpx | rorAbs | rorAbx => exact regular_modifyAt keepsIDV_ror
  case aslAcc => exact regular_modifyA keepsIDV_asl
  case lsrAcc => exact regular_modifyA keepsIDV_lsr
  case rolAcc => exact regular_modifyA keepsIDV_rol
  case rorAcc => exact regular_modifyA keepsIDV_ror
  case bcc | bcs | beq | bmi | bne | bpl | bvc | bvs => exact regular_branch (fun _ _ _ _ => rfl)
  case skip04 | skip0C | skip14 | skip1A | skip1C | skip34 | skip3A | skip3C | skip44 | skip54 | skip5A | skip5C
      | skip64 | skip74 | skip7A | skip7C | skip80 | skip82 | skip89 | skipC2 | skipD4 | skipDA | skipDC | skipE2
      | skipF4 | skipFA | skipFC => exact regular_skipBytes
  case tax | tay | txa | tya | tsx | inx | iny | dex | dey =>
    exact regular_of_keepsBits (fun _ => keepsBits_setZN _ _) (fun _ _ _ _ => rfl)
  case txs | jmpAbs | nop => exact regular_of_keepsBits (fun _ => KeepsBits.refl 4 5 _) (fun _ _ _ _ => rfl)
  case clc | sec => exact regular_of_keepsBits (fun _ => keepsBits_setC _ _) (fun _ _ _ _ => rfl)
  case cld | sed => exact regular_of_keepsBits (fun _ => keepsBits_setD _ _) (fun _ _ _ _ => rfl)
  case cli | sei => exact regular_of_keepsBits (fun _ => keepsBits_setI _ _) (fun _ _ _ _ => rfl)
  case clv => exact regular_of_keepsBits (fun _ => keepsBits_setV _ _) (fun _ _ _ _ => rfl)
  case pha | php => exact regular_push (fun _ _ _ _ => rfl)
  case pla => exact regular_pla
  case plp => exact regular_plp
  case jmpInd => exact regular_jmpInd _
  case jsr => exact regular_jsr _
  case rts => exact regular_rts
  case brk => exact regular_brk
  case rti => exact regular_rti



/-! ## A step: what its ticks and its fetch leave, and how it goes through the CPU step -/

theorem ppuTick_frame (s : State) :
    (ppuTick s).p = s.p ∧ (ppuTick s).cycleCount = s.cycleCount ∧ (ppuTick s).fault = s.fault := by
  obtain ⟨-, -, -, -, -, hp, hc, hf, -⟩ := ppuEvents_frame (ppuAdvance s)
  rw [ppuTick, hp, hc, hf, ppuAdvance_eq]
  exact ⟨rfl, rfl, rfl⟩

theorem ppuTicks_frame (n : Nat) (s : State) :
    (ppuTicks n s).p = s.p ∧ (ppuTicks n s).cycleCount = s.cycleCount ∧ (ppuTicks n s).fault = s.fault := by
  induction n generalizing s with
  | zero => exact ⟨rfl, rfl, rfl⟩
  | succ n ih =>
    obtain ⟨hp, hc, hf⟩ := ppuTick_frame s
    rw [ppuTicks, ← hp, ← hc, ← hf]
    exact ih (ppuTick s)

/-- The ticks of a step leave the status register, the cycle count and the fault record. -/
theorem settle_frame (s : State) : (settle s).p = s.p ∧ (settle s).cycleCount = s.cycleCount ∧ (settle s).fault = s.fault := by
  unfold settle unlessFaulted
  split
  · exact ⟨rfl, rfl, rfl⟩
  · exact ppuTicks_frame _ s

/-- A step that answers a next state is a CPU step and its ticks. -/
theorem step_eq_settle {s t : State} (h : step s = .next t) : ∃ u, cpuStep s = .next u ∧ t = settle u := by
  unfold step systemStep at h
  split at h
  · next u hu => exact ⟨u, hu, (Host.Outcome.next.inj h).symm⟩
  · cases h
  · cases h

/-- A fetch leaves the status register and the cycle count. -/
theorem fetchInstr_frame (s : State) : (fetchInstr s).2.p = s.p ∧ (fetchInstr s).2.cycleCount = s.cycleCount := by
  have hb : ∀ u : State, (fetchByte u).2.p = u.p ∧ (fetchByte u).2.cycleCount = u.cycleCount := fun u => by simp [fetchByte]
  unfold fetchInstr
  split
  · exact hb s
  · unfold fetchOperands
    split <;> simp [hb]

theorem nmiEntry_eq (s : State) : nmiEntry s =
    { s with
      nmiPending := false
      mem := entryMem s.pc (statusFromNmi s.p) s
      sp := s.sp - 1 - 1 - 1
      p := setI true s.p
      pc := word (peek s 0xFFFB) (peek s 0xFFFA)
      cycleCount := 7 } :=
  interruptEntry_eq (by decide) (by decide) s.pc (statusFromNmi s.p) { s with nmiPending := false }

/-- What a CPU step does to the status register and the cycle count: 2 to 7 cycles, or a fault and no cycle. -/
theorem cpuStep_regular {s t : State} (h : cpuStep s = .next t) : KeepsNormalForm s.p t.p ∧
    (t.fault = none → 2 ≤ t.cycleCount) ∧ t.cycleCount ≤ 7 := by
  obtain ⟨-, ⟨-, rfl⟩ | ⟨op, s1, -, hfetch, rfl⟩ | ⟨i, s1, -, hfetch, hexec⟩⟩ := cpuStep_cases h
  · rw [nmiEntry_eq]
    exact ⟨(keepsBits_setI _ _).normalForm, fun _ => (by decide : 2 ≤ 7), le_rfl⟩
  · obtain ⟨hp, hc⟩ := fetchInstr_frame (s.withCycles 0)
    rw [hfetch] at hp hc
    exact ⟨fun h5 h4 => ⟨hp ▸ h5, hp ▸ h4⟩, nofun, hc ▸ Nat.zero_le 7⟩
  · obtain ⟨hp, -⟩ := fetchInstr_frame (s.withCycles 0)
    rw [hfetch] at hp
    obtain ⟨n, u, e⟩ := regular_exec i s1
    obtain rfl : u.withCycles n = t := Host.Outcome.next.inj (e.eq.symm.trans hexec)
    exact ⟨fun h5 h4 => e.status (hp ▸ h5) (hp ▸ h4), fun _ => e.atLeast, e.atMost⟩

/-- Settles O9: every CPU step takes 2 to 7 cycles or records a fault, and the ticks leave the count and the record. -/
theorem stepTakesTwoToSevenCycles : Obligations.StepTakesTwoToSevenCycles := by
  intro s t h hfault
  obtain ⟨u, hu, rfl⟩ := step_eq_settle h
  obtain ⟨-, hc, hf⟩ := settle_frame u
  obtain ⟨-, h2, h7⟩ := cpuStep_regular hu
  rw [hc]
  exact ⟨h2 (hf ▸ hfault), h7⟩

/-- Settles O14: every instruction and the NMI entry keep the normal form of the status, and the ticks leave the register. -/
theorem stepKeepsStatusNormalForm : Obligations.StepKeepsStatusNormalForm := by
  intro s t h h5 h4
  obtain ⟨u, hu, rfl⟩ := step_eq_settle h
  obtain ⟨hp, -, -⟩ := settle_frame u
  obtain ⟨hs, -, -⟩ := cpuStep_regular hu
  rw [hp]
  exact hs h5 h4

/-- Settles O55: every instruction's meaning is regular, so what is in the hidden fields makes no difference to it. -/
theorem instructionsCannotReadLatch : Obligations.InstructionsCannotReadLatch := by
  intro i s t latch frame cycles h
  obtain ⟨n, u, e⟩ := regular_exec i s
  obtain rfl : u.withCycles n = t := Host.Outcome.next.inj (e.eq.symm.trans h)
  exact e.blind latch frame cycles

/-! ## The invariant of the machine -/

/-- Clearing a bit of a status byte whose low five bits are 0 leaves them so. -/
theorem lowFive_and {v : Byte} (h : v &&& 0x1F = 0) (mask : Byte) : v &&& mask &&& 0x1F = 0 := by
  rw [BitVec.and_assoc, BitVec.and_comm mask, ← BitVec.and_assoc, h]
  exact BitVec.zero_and

/-- Setting VBlank leaves the low five bits. -/
theorem lowFive_or_vblank {v : Byte} (h : v &&& 0x1F = 0) : (v ||| maskVBlank) &&& 0x1F = 0 := by
  have : maskVBlank &&& (0x1F : Byte) = 0 := by decide
  rw [BitVec.and_or_distrib_right, h, this]
  rfl

/-- The CPU keeps the invariant as long as it counts at most 7 cycles. -/
theorem inv_of_busReach {s t : State} (h : s.Inv) (hr : BusReach s t) (hc : t.cycleCount ≤ 7) : t.Inv := by
  obtain ⟨hcycle, hline, -, -, -⟩ := hr.outside
  refine ⟨hr.wf h.mem, hcycle ▸ h.cycle, hline ▸ h.lineLow, hline ▸ h.lineHigh, hr.suppress h.suppress, ?_, hc⟩
  rcases hr.status h.mem with e | e <;> rw [e]
  · exact h.status
  · exact lowFive_and h.status _

theorem wf_clearStatus {s : State} (h : s.mem.wf) (mask : Byte) : (clearStatus mask s).mem.wf := wf_setStatus h _

theorem ppuStatus_clearStatus {s : State} (h : s.mem.wf) (mask : Byte) :
    ppuStatus (clearStatus mask s) = ppuStatus s &&& ~~~mask := ppuStatus_setStatus h _

/-- An event of the PPU keeps the suppression flags equal and the low five status bits 0. -/
theorem ppuEvents_keeps {s : State} (hm : s.mem.wf) (hs : s.suppressVbl = s.suppressNmi) (hl : ppuStatus s &&& 0x1F = 0) :
    (ppuEvents s).suppressVbl = (ppuEvents s).suppressNmi ∧ ppuStatus (ppuEvents s) &&& 0x1F = 0 := by
  rcases ppuEvents_cases s with ⟨-, -, -, e⟩ | ⟨-, e⟩ | ⟨-, e⟩ | ⟨-, e⟩ <;> rw [e]
  · exact ⟨hs, hl⟩
  · refine ⟨rfl, ?_⟩
    have hst : ppuStatus (vblankSet s) = if s.suppressVbl then ppuStatus s else ppuStatus s ||| maskVBlank := by
      unfold vblankSet
      split
      · rfl
      · exact ppuStatus_setStatus hm _
    rw [hst]
    split
    · exact hl
    · exact lowFive_or_vblank hl
  · refine ⟨hs, ?_⟩
    rw [vblankClear, ppuStatus_clearStatus hm]
    exact lowFive_and hl _
  · refine ⟨hs, ?_⟩
    rw [spriteClear, ppuStatus_clearStatus (wf_clearStatus hm _), ppuStatus_clearStatus hm]
    exact lowFive_and (lowFive_and hl _) _

theorem inv_ppuTick {s : State} (h : s.Inv) : (ppuTick s).Inv := by
  obtain ⟨hc, hl, hh, -⟩ := ppuAdvance_position h.cycle h.lineLow h.lineHigh
  obtain ⟨-, -, -, -, -, -, -, -, -, ec, el, -⟩ := ppuEvents_frame (ppuAdvance s)
  obtain ⟨-, ecount, -⟩ := ppuTick_frame s
  have hsame : (ppuAdvance s).suppressVbl = (ppuAdvance s).suppressNmi ∧ ppuStatus (ppuAdvance s) &&& 0x1F = 0 := by
    rw [ppuAdvance_eq]
    exact ⟨h.suppress, h.status⟩
  have hmem : (ppuAdvance s).mem.wf := by
    rw [ppuAdvance_eq]
    exact h.mem
  obtain ⟨hsup, hst⟩ := ppuEvents_keeps hmem hsame.1 hsame.2
  exact ⟨wf_ppuTick h.mem, ec ▸ hc, el ▸ hl, el ▸ hh, hsup, hst, ecount ▸ h.cycles⟩

theorem inv_ppuTicks (n : Nat) {s : State} (h : s.Inv) : (ppuTicks n s).Inv := by
  induction n generalizing s with
  | zero => exact h
  | succ n ih => exact ih (inv_ppuTick h)

theorem inv_settle {s : State} (h : s.Inv) : (settle s).Inv := by
  unfold settle unlessFaulted
  split
  · exact h
  · exact inv_ppuTicks _ h

/-- Consuming the NMI latch or recording a fault does not touch what the invariant speaks of. -/
theorem inv_withOutside {s : State} (h : s.Inv) (latch : Bool) (fault : Option Fault) :
    State.Inv { s with nmiPending := latch, fault := fault } :=
  ⟨h.mem, h.cycle, h.lineLow, h.lineHigh, h.suppress, h.status, h.cycles⟩

theorem inv_withCycles_zero {s : State} (h : s.Inv) : (s.withCycles 0).Inv :=
  inv_of_busReach h ((BusReach.refl s).withCycles 0) (Nat.zero_le 7)

theorem inv_cpuStep {s t : State} (h : s.Inv) (hstep : cpuStep s = .next t) : t.Inv := by
  obtain ⟨-, -, h7⟩ := cpuStep_regular hstep
  have h0 := inv_withCycles_zero h
  have hfetched : ∀ {r s1}, fetchInstr (s.withCycles 0) = (r, s1) → s1.Inv := fun {r s1} hf => by
    have hr := busReach_fetchInstr (s.withCycles 0)
    obtain ⟨-, hc⟩ := fetchInstr_frame (s.withCycles 0)
    rw [hf] at hr hc
    exact inv_of_busReach h0 hr (hc ▸ Nat.zero_le 7)
  obtain ⟨-, ⟨-, rfl⟩ | ⟨op, s1, -, hfetch, rfl⟩ | ⟨i, s1, -, hfetch, hexec⟩⟩ := cpuStep_cases hstep
  · exact inv_of_busReach (inv_withOutside h0 false _) ((BusReach.refl _).interruptEntry _ _ _) h7
  · exact inv_withOutside (hfetched hfetch) _ (some (.unknownOpcode op))
  · exact inv_of_busReach (hfetched hfetch) (busReach_exec hexec) h7

/-- Settles O11: the CPU step keeps the invariant, being bus accesses and register changes, and so does every tick. -/
theorem stepKeepsInvariant : Obligations.StepKeepsInvariant := by
  intro s t h hstep
  obtain ⟨u, hu, rfl⟩ := step_eq_settle hstep
  exact inv_settle (inv_cpuStep h hu)

/-- Settles O12: the reset state has an empty byte array, the PPU at the start of line 241 and clear flags. -/
theorem resetMeetsInvariant : Obligations.ResetMeetsInvariant :=
  ⟨reset_mem_wf, by decide, by decide, by decide, rfl, by decide, by decide⟩

end Sys2Proof.Proofs

namespace Sys2Proof.Proofs
open Sys2Proof Sys2Proof.Machine Sys2Proof.Claims

/-! ## The forms of the opcode map run the shared operations -/

/-- Each of these forms reads its operand and hands it to `g`. -/
def FormsRead (forms : List ReadForm) (g : Byte → State → State) : Prop :=
  ∀ f ∈ forms, ∀ s, exec f.instr s = withSource f.base f.source g s

theorem formsRead_lda (v z : Byte) (addr : Word) : FormsRead (ldaForms v z addr) writeA := by
  simp only [FormsRead, ldaForms, List.forall_mem_cons]
  exact ⟨exec_ldaImm v, exec_ldaZp z, exec_ldaZpx z, exec_ldaAbs addr, exec_ldaAbx addr, exec_ldaAby addr, exec_ldaIzx z,
    exec_ldaIzy z, List.forall_mem_nil _⟩

theorem formsRead_ldx (v z : Byte) (addr : Word) : FormsRead (ldxForms v z addr) writeX := by
  simp only [FormsRead, ldxForms, List.forall_mem_cons]
  exact ⟨exec_ldxImm v, exec_ldxZp z, exec_ldxZpy z, exec_ldxAbs addr, exec_ldxAby addr, List.forall_mem_nil _⟩

theorem formsRead_ldy (v z : Byte) (addr : Word) : FormsRead (ldyForms v z addr) writeY := by
  simp only [FormsRead, ldyForms, List.forall_mem_cons]
  exact ⟨exec_ldyImm v, exec_ldyZp z, exec_ldyZpx z, exec_ldyAbs addr, exec_ldyAbx addr, List.forall_mem_nil _⟩

theorem formsRead_and (v z : Byte) (addr : Word) : FormsRead (andForms v z addr) andA := by
  simp only [FormsRead, andForms, List.forall_mem_cons]
  exact ⟨exec_andImm v, exec_andZp z, exec_andZpx z, exec_andAbs addr, exec_andAbx addr, exec_andAby addr, exec_andIzx z,
    exec_andIzy z, List.forall_mem_nil _⟩

theorem formsRead_ora (v z : Byte) (addr : Word) : FormsRead (oraForms v z addr) oraA := by
  simp only [FormsRead, oraForms, List.forall_mem_cons]
  exact ⟨exec_oraImm v, exec_oraZp z, exec_oraZpx z, exec_oraAbs addr, exec_oraAbx addr, exec_oraAby addr, exec_oraIzx z,
    exec_oraIzy z, List.forall_mem_nil _⟩

theorem formsRead_eor (v z : Byte) (addr : Word) : FormsRead (eorForms v z addr) eorA := by
  simp only [FormsRead, eorForms, List.forall_mem_cons]
  exact ⟨exec_eorImm v, exec_eorZp z, exec_eorZpx z, exec_eorAbs addr, exec_eorAbx addr, exec_eorAby addr, exec_eorIzx z,
    exec_eorIzy z, List.forall_mem_nil _⟩

theorem formsRead_bit (z : Byte) (addr : Word) : FormsRead (bitForms z addr) bitTest := by
  simp only [FormsRead, bitForms, List.forall_mem_cons]
  exact ⟨exec_bitZp z, exec_bitAbs addr, List.forall_mem_nil _⟩

theorem formsRead_adc (v z : Byte) (addr : Word) : FormsRead (adcForms v z addr) adcA := by
  simp only [FormsRead, adcForms, List.forall_mem_cons]
  exact ⟨exec_adcImm v, exec_adcZp z, exec_adcZpx z, exec_adcAbs addr, exec_adcAbx addr, exec_adcAby addr, exec_adcIzx z,
    exec_adcIzy z, List.forall_mem_nil _⟩

theorem formsRead_sbc (v z : Byte) (addr : Word) : FormsRead (sbcForms v z addr) sbcA := by
  simp only [FormsRead, sbcForms, List.forall_mem_cons]
  exact ⟨exec_sbcImm v, exec_sbcZp z, exec_sbcZpx z, exec_sbcAbs addr, exec_sbcAbx addr, exec_sbcAby addr, exec_sbcIzx z,
    exec_sbcIzy z, List.forall_mem_nil _⟩

theorem formsRead_cmp (v z : Byte) (addr : Word) : FormsRead (cmpForms v z addr) cmpA := by
  simp only [FormsRead, cmpForms, List.forall_mem_cons]
  exact ⟨exec_cmpImm v, exec_cmpZp z, exec_cmpZpx z, exec_cmpAbs addr, exec_cmpAbx addr, exec_cmpAby addr, exec_cmpIzx z,
    exec_cmpIzy z, List.forall_mem_nil _⟩

theorem formsRead_cpx (v z : Byte) (addr : Word) : FormsRead (cpxForms v z addr) cmpX := by
  simp only [FormsRead, cpxForms, List.forall_mem_cons]
  exact ⟨exec_cpxImm v, exec_cpxZp z, exec_cpxAbs addr, List.forall_mem_nil _⟩

theorem formsRead_cpy (v z : Byte) (addr : Word) : FormsRead (cpyForms v z addr) cmpY := by
  simp only [FormsRead, cpyForms, List.forall_mem_cons]
  exact ⟨exec_cpyImm v, exec_cpyZp z, exec_cpyAbs addr, List.forall_mem_nil _⟩

/-- Each of these forms puts its operand through `g`. -/
def FormsModify (forms : List StoreForm) (g : Byte → Byte → Alu) : Prop :=
  ∀ f ∈ forms, ∀ s, exec f.instr s = modifyAt f.cycles f.mode g s

theorem formsModify_inc (z : Byte) (addr : Word) : FormsModify (incForms z addr) incr := by
  simp only [FormsModify, incForms, List.forall_mem_cons]
  exact ⟨exec_incZp z, exec_incZpx z, exec_incAbs addr, exec_incAbx addr, List.forall_mem_nil _⟩

theorem formsModify_dec (z : Byte) (addr : Word) : FormsModify (decForms z addr) decr := by
  simp only [FormsModify, decForms, List.forall_mem_cons]
  exact ⟨exec_decZp z, exec_decZpx z, exec_decAbs addr, exec_decAbx addr, List.forall_mem_nil _⟩

theorem formsModify_asl (z : Byte) (addr : Word) : FormsModify (aslForms z addr) asl := by
  simp only [FormsModify, aslForms, List.forall_mem_cons]
  exact ⟨exec_aslZp z, exec_aslZpx z, exec_aslAbs addr, exec_aslAbx addr, List.forall_mem_nil _⟩

theorem formsModify_lsr (z : Byte) (addr : Word) : FormsModify (lsrForms z addr) lsr := by
  simp only [FormsModify, lsrForms, List.forall_mem_cons]
  exact ⟨exec_lsrZp z, exec_lsrZpx z, exec_lsrAbs addr, exec_lsrAbx addr, List.forall_mem_nil _⟩

theorem formsModify_rol (z : Byte) (addr : Word) : FormsModify (rolForms z addr) rol := by
  simp only [FormsModify, rolForms, List.forall_mem_cons]
  exact ⟨exec_rolZp z, exec_rolZpx z, exec_rolAbs addr, exec_rolAbx addr, List.forall_mem_nil _⟩

theorem formsModify_ror (z : Byte) (addr : Word) : FormsModify (rorForms z addr) ror := by
  simp only [FormsModify, rorForms, List.forall_mem_cons]
  exact ⟨exec_rorZp z, exec_rorZpx z, exec_rorAbs addr, exec_rorAbx addr, List.forall_mem_nil _⟩

theorem exec_of_mem_skipForms : ∀ f ∈ skipForms, ∀ s, exec f.instr s = skipBytes f.length f.cycles s := by
  simp only [skipForms, List.forall_mem_cons]
  exact ⟨exec_skip04, exec_skip0C, exec_skip14, exec_skip1A, exec_skip1C, exec_skip34, exec_skip3A, exec_skip3C, exec_skip44,
    exec_skip54, exec_skip5A, exec_skip5C, exec_skip64, exec_skip74, exec_skip7A, exec_skip7C, exec_skip80, exec_skip82,
    exec_skip89, exec_skipC2, exec_skipD4, exec_skipDA, exec_skipDC, exec_skipE2, exec_skipF4, exec_skipFA, exec_skipFC,
    List.forall_mem_nil _⟩
theorem exec_of_mem_branchForms (off : Byte) :
    ∀ f ∈ branchForms off, ∃ cond : State → Bool, ∀ s, exec f.instr s = branch 2 (cond s) off s := by
  simp only [branchForms, List.forall_mem_cons]
  exact ⟨⟨_, exec_bcc off⟩, ⟨_, exec_bcs off⟩, ⟨_, exec_beq off⟩, ⟨_, exec_bmi off⟩, ⟨_, exec_bne off⟩, ⟨_, exec_bpl off⟩,
    ⟨_, exec_bvc off⟩, ⟨_, exec_bvs off⟩, List.forall_mem_nil _⟩

/-! ## Read-type instructions (R86) -/

/-- `g` leaves the accumulator. -/
def KeepsA (g : Byte → State → State) : Prop := ∀ v s, (g v s).a = s.a
/-- `g` leaves `x`. -/
def KeepsX (g : Byte → State → State) : Prop := ∀ v s, (g v s).x = s.x
/-- `g` leaves `y`. -/
def KeepsY (g : Byte → State → State) : Prop := ∀ v s, (g v s).y = s.y

/-- What runs a read-type form, and which index register it leaves. -/
theorem exec_of_mem_readForms {v z : Byte} {addr : Word} {f : ReadForm} (hf : f ∈ readForms v z addr) :
    ∃ g, OperandUse g ∧ (f ∉ ldxForms v z addr → KeepsX g) ∧ (f ∉ ldyForms v z addr → KeepsY g) ∧
      ∀ s, exec f.instr s = withSource f.base f.source g s := by
  simp only [readForms, List.mem_append, or_assoc] at hf
  rcases hf with h | h | h | h | h | h | h | h | h | h | h | h
  · exact ⟨writeA, operandUse_writeA, fun _ _ _ => rfl, fun _ _ _ => rfl, formsRead_lda v z addr f h⟩
  · exact ⟨writeX, operandUse_writeX, fun hn => absurd h hn, fun _ _ _ => rfl, formsRead_ldx v z addr f h⟩
  · exact ⟨writeY, operandUse_writeY, fun _ _ _ => rfl, fun hn => absurd h hn, formsRead_ldy v z addr f h⟩
  · exact ⟨andA, operandUse_andA, fun _ _ _ => rfl, fun _ _ _ => rfl, formsRead_and v z addr f h⟩
  · exact ⟨oraA, operandUse_oraA, fun _ _ _ => rfl, fun _ _ _ => rfl, formsRead_ora v z addr f h⟩
  · exact ⟨eorA, operandUse_eorA, fun _ _ _ => rfl, fun _ _ _ => rfl, formsRead_eor v z addr f h⟩
  · exact ⟨bitTest, operandUse_bitTest, fun _ _ _ => rfl, fun _ _ _ => rfl, formsRead_bit z addr f h⟩
  · exact ⟨adcA, operandUse_adcA, fun _ _ _ => rfl, fun _ _ _ => rfl, formsRead_adc v z addr f h⟩
  · exact ⟨sbcA, operandUse_sbcA, fun _ _ _ => rfl, fun _ _ _ => rfl, formsRead_sbc v z addr f h⟩
  · exact ⟨cmpA, operandUse_cmpA, fun _ _ _ => rfl, fun _ _ _ => rfl, formsRead_cmp v z addr f h⟩
  · exact ⟨cmpX, operandUse_cmpX, fun _ _ _ => rfl, fun _ _ _ => rfl, formsRead_cpx v z addr f h⟩
  · exact ⟨cmpY, operandUse_cmpY, fun _ _ _ => rfl, fun _ _ _ => rfl, formsRead_cpy v z addr f h⟩

/-- The read-type forms without the accumulator as destination leave it. -/
theorem exec_of_mem_keepsA {v z : Byte} {addr : Word} {f : ReadForm}
    (hf : f ∈ ldxForms v z addr ++ ldyForms v z addr ++ bitForms z addr ++ cmpForms v z addr ++ cpxForms v z addr ++
      cpyForms v z addr) : ∃ g, OperandUse g ∧ KeepsA g ∧ ∀ s, exec f.instr s = withSource f.base f.source g s := by
  simp only [List.mem_append, or_assoc] at hf
  rcases hf with h | h | h | h | h | h
  · exact ⟨writeX, operandUse_writeX, fun _ _ => rfl, formsRead_ldx v z addr f h⟩
  · exact ⟨writeY, operandUse_writeY, fun _ _ => rfl, formsRead_ldy v z addr f h⟩
  · exact ⟨bitTest, operandUse_bitTest, fun _ _ => rfl, formsRead_bit z addr f h⟩
  · exact ⟨cmpA, operandUse_cmpA, fun _ _ => rfl, formsRead_cmp v z addr f h⟩
  · exact ⟨cmpX, operandUse_cmpX, fun _ _ => rfl, formsRead_cpx v z addr f h⟩
  · exact ⟨cmpY, operandUse_cmpY, fun _ _ => rfl, formsRead_cpy v z addr f h⟩

/-- A read changes no byte but the status register, and that through its own addresses only (R329). -/
theorem peek_memRead_other {a b : Word} (h : canon a = 0x2002 → canon b ≠ 0x2002) (s : State) :
    peek (memRead a s).2 b = peek s b := by
  rw [memRead_snd]
  split
  · next ha => exact peek_statusReadEffects_other (fun e => h ha ((canon_eq_status_iff b).2 e)) s
  · rfl

theorem peek_readSource_other {b : Word} (hb : canon b ≠ 0x2002) (src : Source) (s : State) :
    peek (readSource src s).state b = peek s b := by
  cases src with
  | imm v => rfl
  | mem m =>
    rw [readSource_mem]
    exact peek_memRead_other (fun _ => hb) s

/-- An operand that is not in the status register is read without a side effect (R55). -/
theorem readSource_state_of_ne {src : Source} {s : State} (h : ∀ m, src = .mem m → canon (locate m s).ea ≠ 0x2002) :
    (readSource src s).state = s := by
  cases src with
  | imm v => rfl
  | mem m =>
    rw [readSource_mem]
    exact memRead_snd_of_ne (h m rfl) s

theorem readSource_registers (src : Source) (s : State) :
    (readSource src s).state.a = s.a ∧ (readSource src s).state.x = s.x ∧ (readSource src s).state.y = s.y ∧
    (readSource src s).state.pc = s.pc ∧ (readSource src s).state.sp = s.sp ∧ (readSource src s).state.p = s.p := by
  cases src <;> simp [readSource]

theorem withSource_next {n : Nat} {src : Source} {g : Byte → State → State} {s t : State} (h : withSource n src g s = .next t) :
    ∃ m, t = (g (readSource src s).value (readSource src s).state).withCycles m := ⟨_, (Host.Outcome.next.inj h).symm⟩

/-- Settles O56: a read-type form is one operand read, which reaches the status register at most, and a use of the operand that
changes registers and flags only. -/
theorem readInstructionsFrame : Obligations.ReadInstructionsFrame := by
  intro s t v z addr f hf h
  obtain ⟨hcycle, hline, hframe, hnmi, hfault⟩ := (busReach_exec h).outside
  obtain ⟨ha, hx, hy, hpc, hsp, hp⟩ := readSource_registers f.source s
  obtain ⟨g, huse, keepsX, keepsY, hrun⟩ := exec_of_mem_readForms hf
  obtain ⟨n, ht⟩ := withSource_next ((hrun s).symm.trans h)
  generalize hr : (readSource f.source s).state = r at *
  generalize (readSource f.source s).value = m at *
  have hmem : ∀ b, peek t b = peek r b := fun b => by rw [ht, huse.frame]; rfl
  refine ⟨⟨?_, ?_, hnmi, hfault, hcycle, hline, hframe⟩, ?_, fun hform => ?_, fun hne => ?_, fun hne => ?_, fun b hb => ?_,
    fun hne => ?_⟩
  · rw [ht, huse.frame]; exact hpc
  · rw [ht, huse.frame]; exact hsp
  · rw [← hp, ht]; exact huse.flags m r
  · obtain ⟨g', -, keepsA, hrun'⟩ := exec_of_mem_keepsA hform
    obtain ⟨n', ht'⟩ := withSource_next ((hrun' s).symm.trans h)
    rw [ht', State.withCycles_a, keepsA, hr, ha]
  · rw [ht, State.withCycles_x, keepsX hne, hx]
  · rw [ht, State.withCycles_y, keepsY hne, hy]
  · rw [hmem, ← hr, peek_readSource_other hb]
  · obtain rfl : r = s := hr.symm.trans (readSource_state_of_ne hne)
    refine ⟨?_, hmem⟩
    rw [ht, huse.frame]
    exact ⟨rfl, rfl, rfl, rfl, rfl, rfl⟩

/-! ## Read-modify-write instructions on memory (R86) -/

theorem modifyAt_eq (n : Nat) (m : MemMode) (f : Byte → Byte → Alu) (s : State) : modifyAt n m f s =
    done n ((memWrite (locate m s).ea (f (peek s (locate m s).ea) s.p).r (memRead (locate m s).ea s).2).withP
      (f (peek s (locate m s).ea) s.p).p) := by
  simp only [modifyAt, locate_state, memRead_fst]

/-- What runs a read-modify-write form. -/
theorem exec_of_mem_modifyForms {z : Byte} {addr : Word} {f : StoreForm} (hf : f ∈ modifyForms z addr) :
    ∃ g, KeepsIDV g ∧ ∀ s, exec f.instr s = modifyAt f.cycles f.mode g s := by
  simp only [modifyForms, List.mem_append, or_assoc] at hf
  rcases hf with h | h | h | h | h | h
  · exact ⟨incr, keepsIDV_incr, formsModify_inc z addr f h⟩
  · exact ⟨decr, keepsIDV_decr, formsModify_dec z addr f h⟩
  · exact ⟨asl, keepsIDV_asl, formsModify_asl z addr f h⟩
  · exact ⟨lsr, keepsIDV_lsr, formsModify_lsr z addr f h⟩
  · exact ⟨rol, keepsIDV_rol, formsModify_rol z addr f h⟩
  · exact ⟨ror, keepsIDV_ror, formsModify_ror z addr f h⟩

/-- Zero and Negative are not bit 0. -/
theorem keepsCarry_setZN (v p : Byte) : KeepsBits 0 0 p (setZN v p) := fun k _ h => by
  rw [getLsbD_setZN v p k (by omega), if_neg (by omega), if_neg (by omega)]

/-- INC and DEC leave Carry. -/
theorem exec_of_mem_keepsCarry {z : Byte} {addr : Word} {f : StoreForm} (hf : f ∈ incForms z addr ++ decForms z addr) :
    ∃ g : Byte → Byte → Alu, (∀ v p, KeepsBits 0 0 p (g v p).p) ∧ ∀ s, exec f.instr s = modifyAt f.cycles f.mode g s := by
  rcases List.mem_append.1 hf with h | h
  · exact ⟨incr, fun _ _ => keepsCarry_setZN _ _, formsModify_inc z addr f h⟩
  · exact ⟨decr, fun _ _ => keepsCarry_setZN _ _, formsModify_dec z addr f h⟩

theorem cellOf_ne_of_canon_ne {a b : Word} (h : canon b ≠ canon a) : cellOf b ≠ cellOf a := fun e =>
  h ((canon_eq_iff b a).2 e)

/-- Only PPU registers 5 and 6 flip the write toggle (R331). -/
theorem memWrite_w_of_ne {a : Word} (h5 : canon a ≠ 0x2005) (h6 : canon a ≠ 0x2006) (v : Byte) (s : State) :
    (memWrite a v s).w = s.w := by
  have hcell : ¬(cellOf a = 0x2005 ∨ cellOf a = 0x2006) := by
    rintro (e | e)
    · exact h5 (BitVec.eq_of_toNat_eq e)
    · exact h6 (BitVec.eq_of_toNat_eq e)
  have hw : (if cellOf a = 0x2005 ∨ cellOf a = 0x2006 then !s.w else s.w) = s.w := if_neg hcell
  rw [memWrite_eq, hw]
  split <;> rfl

/-- Settles O58: a read-modify-write form is a bus read and a bus write at one address and a write of C, Z, N. -/
theorem modifyInstructionsFrame : Obligations.ModifyInstructionsFrame := by
  intro s t z addr f hf h
  obtain ⟨hcycle, hline, hframe, hnmi, hfault⟩ := (busReach_exec h).outside
  obtain ⟨g, hg, hrun⟩ := exec_of_mem_modifyForms hf
  have ht := (hrun s).symm.trans h
  rw [modifyAt_eq] at ht
  obtain rfl := Host.Outcome.next.inj ht
  refine ⟨⟨by simp, by simp, by simp, by simp, by simp, hnmi, hfault, hcycle, hline, hframe⟩, hg _ _, fun hmem => ?_, ?_⟩
  · obtain ⟨g', hcarry, hrun'⟩ := exec_of_mem_keepsCarry hmem
    have ht' := (hrun' s).symm.trans h
    rw [modifyAt_eq] at ht'
    rw [← Host.Outcome.next.inj ht']
    exact hcarry _ _ 0 le_rfl le_rfl
  · rintro a rfl
    refine ⟨fun b hb => ?_, fun hreg => ?_⟩
    · exact (peek_memWrite_other (cellOf_ne_of_canon_ne hb) _ _).trans (peek_memRead_other (fun e => e ▸ hb) s)
    · obtain ⟨h2, h5, h6⟩ := hreg _ rfl
      have hw := memWrite_frame (locate f.mode s).ea (g (peek s (locate f.mode s).ea) s.p).r s
      refine ⟨hcycle, hline, hframe, ?_⟩
      rw [memRead_snd_of_ne h2]
      exact ⟨memWrite_w_of_ne h5 h6 _ s, by rw [hw]; rfl, by rw [hw]; rfl⟩

/-! ## Stack instructions (R120, R121) -/

/-- `t` is `s` but for CPU registers, the cycle count and the byte array. -/
def OutsideKept (s t : State) : Prop :=
  t = { s with a := t.a, x := t.x, y := t.y, pc := t.pc, sp := t.sp, p := t.p, cycleCount := t.cycleCount, mem := t.mem }

theorem OutsideKept.samePpu {s t : State} (h : OutsideKept s t) : SamePpu s t := by
  rw [h]
  exact ⟨rfl, rfl, rfl, rfl, rfl, rfl⟩

theorem OutsideKept.latches {s t : State} (h : OutsideKept s t) : t.nmiPending = s.nmiPending ∧ t.fault = s.fault := by
  rw [h]
  exact ⟨rfl, rfl⟩

/-- The address of a push reaches one cell of the stack page only. -/
theorem cellOf_ne_of_canon_ne_stackAddr {b : Word} {sp : Byte} (h : canon b ≠ stackAddr sp) : cellOf b ≠ 0x100 + sp.toNat := fun e =>
  h (BitVec.eq_of_toNat_eq (e.trans (stackAddr_toNat sp).symm))

theorem stackTop_zero (s : State) : stackTop s 0 = stackAddr s.sp := congrArg stackAddr (BitVec.sub_zero s.sp)
theorem stackTop_one (s : State) : stackTop s 1 = stackAddr (s.sp - 1) := rfl
theorem stackTop_two (s : State) : stackTop s 2 = stackAddr (s.sp - 1 - 1) := congrArg stackAddr (BitVec.sub_sub s.sp 1 1).symm

section
variable {s : State} {b : Word}

theorem read_push_other (h : canon b ≠ stackTop s 0) (v : Byte) :
    (s.mem.write (0x100 + s.sp.toNat) v).read (cellOf b) = peek s b :=
  Memory.read_write_other _ _ (cellOf_ne_of_canon_ne_stackAddr (stackTop_zero s ▸ h))

theorem read_pushWord_other (h0 : canon b ≠ stackTop s 0) (h1 : canon b ≠ stackTop s 1) (hi lo : Byte) :
    ((s.mem.write (0x100 + s.sp.toNat) hi).write (0x100 + (s.sp - 1).toNat) lo).read (cellOf b) = peek s b :=
  (Memory.read_write_other _ _ (cellOf_ne_of_canon_ne_stackAddr h1)).trans (read_push_other h0 hi)

theorem read_entryMem_other (h0 : canon b ≠ stackTop s 0) (h1 : canon b ≠ stackTop s 1) (h2 : canon b ≠ stackTop s 2) (ret : Word)
    (status : Byte) : (entryMem ret status s).read (cellOf b) = peek s b :=
  (Memory.read_write_other _ _ (cellOf_ne_of_canon_ne_stackAddr (stackTop_two s ▸ h2))).trans (read_pushWord_other h0 h1 _ _)

end

/-- Settles O59: each stack instruction by its equation over the pushes and pulls. -/
theorem stackInstructionsFrame : Obligations.StackInstructionsFrame := by
  intro s t addr i pushes hi h
  simp only [List.mem_cons, Prod.mk.injEq, List.not_mem_nil, or_false] at hi
  obtain ⟨rfl, rfl⟩ | ⟨rfl, rfl⟩ | ⟨rfl, rfl⟩ | ⟨rfl, rfl⟩ | ⟨rfl, rfl⟩ | ⟨rfl, rfl⟩ | ⟨rfl, rfl⟩ | ⟨rfl, rfl⟩ := hi
  · rw [exec_pha, push_eq] at h
    cases h
    exact ⟨⟨rfl, rfl, fun _ => rfl, rfl, rfl, OutsideKept.samePpu rfl⟩, fun _ => rfl,
      fun b hb => read_push_other (hb 0 (by decide)) _⟩
  · rw [exec_php, push_eq] at h
    cases h
    exact ⟨⟨rfl, rfl, fun _ => rfl, rfl, rfl, OutsideKept.samePpu rfl⟩, fun _ => rfl,
      fun b hb => read_push_other (hb 0 (by decide)) _⟩
  · rw [exec_jsr, pushWord_eq] at h
    cases h
    exact ⟨⟨rfl, rfl, fun _ => rfl, rfl, rfl, OutsideKept.samePpu rfl⟩, fun _ => rfl,
      fun b hb => read_pushWord_other (hb 0 (by decide)) (hb 1 (by decide)) _ _⟩
  · rw [exec_brk, interruptEntry_eq (by decide) (by decide)] at h
    cases h
    exact ⟨⟨rfl, rfl, fun _ => rfl, rfl, rfl, OutsideKept.samePpu rfl⟩, by simp,
      fun b hb => read_entryMem_other (hb 0 (by decide)) (hb 1 (by decide)) (hb 2 (by decide)) _ _⟩
  · rw [exec_pla, pull_eq] at h
    cases h
    exact ⟨⟨rfl, rfl, fun hne => absurd rfl hne, rfl, rfl, OutsideKept.samePpu rfl⟩, by simp, fun _ _ => rfl⟩
  · rw [exec_plp, pull_eq] at h
    cases h
    exact ⟨⟨rfl, rfl, fun _ => rfl, rfl, rfl, OutsideKept.samePpu rfl⟩, by simp, fun _ _ => rfl⟩
  · rw [exec_rts, pullWord_eq] at h
    cases h
    exact ⟨⟨rfl, rfl, fun _ => rfl, rfl, rfl, OutsideKept.samePpu rfl⟩, fun _ => rfl, fun _ _ => rfl⟩
  · rw [exec_rti, interruptReturn_eq] at h
    cases h
    exact ⟨⟨rfl, rfl, fun _ => rfl, rfl, rfl, OutsideKept.samePpu rfl⟩, by simp, fun _ _ => rfl⟩

/-- A status byte pushed by an instruction and pulled again is in normal form, its other bits as before (R15). -/
theorem statusPulled_statusFromInstr (p : Byte) : statusPulled (statusFromInstr p) = (p &&& 0xCF) ||| 0x20 := by
  refine status_ext fun k hk => ?_
  simp only [statusPulled, statusFromInstr, BitVec.getLsbD_or, BitVec.getLsbD_and]
  interval_cases k <;> simp

/-- Settles O43: the pull reads the cell the push wrote, and the status goes through both normalisations. -/
theorem phpThenPlpNormalises : Obligations.PhpThenPlpNormalises := by
  intro s hm
  have hsp : s.sp - 1 + 1 = s.sp := BitVec.sub_add_cancel s.sp 1
  have hpulled : (s.mem.write (0x100 + s.sp.toNat) (statusFromInstr s.p)).read (0x100 + s.sp.toNat) = statusFromInstr s.p :=
    Memory.read_write_same hm.1 _ _
  refine ⟨{ s with mem := s.mem.write (0x100 + s.sp.toNat) (statusFromInstr s.p), sp := s.sp - 1, cycleCount := 3 },
    { s with mem := s.mem.write (0x100 + s.sp.toNat) (statusFromInstr s.p), p := (s.p &&& 0xCF) ||| 0x20, cycleCount := 4 },
    ?_, ?_, rfl, ?_, fun b hb => read_push_other hb _⟩
  · rw [exec_php, push_eq]
    rfl
  · rw [exec_plp, pull_eq]
    simp only [hsp, hpulled, statusPulled_statusFromInstr]
    rfl
  · rw [stackTop_zero, peek, cellOf_stackAddr]
    exact hpulled

/-! ## Instructions without a data access (R73, R74, R180, R200) -/

/-- An instruction's flags keep bits 4 and 5, said of the state it answers. -/
theorem keepsBits_of_done {i : Instr} {n : Nat} {f : State → State} (e : ∀ s, exec i s = done n (f s))
    (hf : ∀ s, KeepsBits 4 5 s.p (f s).p) (s t : State) (h : exec i s = .next t) : KeepsBits 4 5 s.p t.p := by
  obtain rfl := Host.Outcome.next.inj ((e s).symm.trans h)
  exact hf s

theorem keepsBits_registerForms (addr : Word) :
    ∀ i ∈ registerForms addr, ∀ s t, exec i s = .next t → KeepsBits 4 5 s.p t.p := by
  simp only [registerForms, List.forall_mem_cons]
  have zn : ∀ (v : State → Byte) (s : State), KeepsBits 4 5 s.p (setZN (v s) s.p) := fun _ _ => (keepsBits_setZN _ _).mono
  have same : ∀ s : State, KeepsBits 4 5 s.p s.p := fun _ => KeepsBits.refl 4 5 _
  have shift : ∀ {g}, KeepsIDV g → ∀ s : State, KeepsBits 4 5 s.p (g s.a s.p).p := fun hg _ => (hg _ _).mono
  exact ⟨keepsBits_of_done exec_tax (zn _), keepsBits_of_done exec_tay (zn _), keepsBits_of_done exec_txa (zn _),
    keepsBits_of_done exec_tya (zn _), keepsBits_of_done exec_tsx (zn _), keepsBits_of_done exec_txs same,
    keepsBits_of_done exec_inx (zn _), keepsBits_of_done exec_iny (zn _), keepsBits_of_done exec_dex (zn _),
    keepsBits_of_done exec_dey (zn _), keepsBits_of_done exec_aslAcc (shift keepsIDV_asl),
    keepsBits_of_done exec_lsrAcc (shift keepsIDV_lsr), keepsBits_of_done exec_rolAcc (shift keepsIDV_rol),
    keepsBits_of_done exec_rorAcc (shift keepsIDV_ror), keepsBits_of_done exec_clc fun _ => (keepsBits_setC _ _).mono,
    keepsBits_of_done exec_cld fun _ => (keepsBits_setD _ _).mono, keepsBits_of_done exec_cli fun _ => (keepsBits_setI _ _).mono,
    keepsBits_of_done exec_clv fun _ => (keepsBits_setV _ _).mono, keepsBits_of_done exec_sec fun _ => (keepsBits_setC _ _).mono,
    keepsBits_of_done exec_sed fun _ => (keepsBits_setD _ _).mono, keepsBits_of_done exec_sei fun _ => (keepsBits_setI _ _).mono,
    keepsBits_of_done exec_nop same, keepsBits_of_done (exec_jmpAbs addr) same, List.forall_mem_nil _⟩

/-- A register instruction changes no more than CPU registers, and of `a`, `x`, `y`, `sp` its destination. -/
theorem registerForms_frame {addr : Word} {i : Instr} {s t : State} (hi : i ∈ registerForms addr) (h : exec i s = .next t) :
    OutsideKept s t ∧ t.mem = s.mem ∧ (i ≠ .txs → t.sp = s.sp) ∧
    (i ∉ ([.txa, .tya, .aslAcc, .lsrAcc, .rolAcc, .rorAcc] : List Instr) → t.a = s.a) ∧
    (i ∉ ([.tax, .tsx, .inx, .dex] : List Instr) → t.x = s.x) ∧ (i ∉ ([.tay, .iny, .dey] : List Instr) → t.y = s.y) := by
  simp only [registerForms, List.mem_cons, List.not_mem_nil, or_false] at hi
  rcases hi with rfl | rfl | rfl | rfl | rfl | rfl | rfl | rfl | rfl | rfl | rfl | rfl | rfl | rfl | rfl | rfl | rfl | rfl | rfl |
    rfl | rfl | rfl | rfl <;> cases h <;>
    exact ⟨rfl, rfl, by simp [writeA, writeX, writeY], by simp [writeX, writeY], by simp [writeA, writeY], by simp [writeA, writeX]⟩

/-- `t` is `s` but for `pc` and the cycle count. -/
def OnlyPc (s t : State) : Prop := t = { s with pc := t.pc, cycleCount := t.cycleCount }

theorem onlyPc_of_branch {n : Nat} {cond : Bool} {off : Byte} {s t : State} (h : branch n cond off s = .next t) : OnlyPc s t := by
  cases cond <;> cases h <;> rfl

theorem onlyPc_of_skipBytes {length n : Nat} {s t : State} (h : skipBytes length n s = .next t) : OnlyPc s t := by
  cases h
  rfl

/-- Branches and skip opcodes change no more than `pc`. -/
theorem onlyPc_of_mem {off : Byte} {i : Instr} {s t : State}
    (hi : i ∈ (branchForms off).map BranchForm.instr ++ skipForms.map SkipForm.instr) (h : exec i s = .next t) : OnlyPc s t := by
  rcases List.mem_append.1 hi with hi | hi <;> obtain ⟨f, hf, rfl⟩ := List.mem_map.1 hi
  · obtain ⟨cond, hrun⟩ := exec_of_mem_branchForms off f hf
    exact onlyPc_of_branch ((hrun s).symm.trans h)
  · exact onlyPc_of_skipBytes ((exec_of_mem_skipForms f hf s).symm.trans h)

/-- Settles O60: register instructions by their frame, branches and skip opcodes because they only move `pc`. -/
theorem registerInstructionsFrame : Obligations.RegisterInstructionsFrame := by
  intro s t off addr i hi h
  rw [List.append_assoc] at hi
  rcases List.mem_append.1 hi with hi | hi
  · obtain ⟨hout, hmem, hregs⟩ := registerForms_frame hi h
    obtain ⟨hnmi, hfault⟩ := hout.latches
    obtain ⟨hsp, ha, hx, hy⟩ := hregs
    have hbits := keepsBits_registerForms addr i hi s t h
    have hpeek : ∀ b, peek t b = peek s b := fun b => congrArg (Memory.read · (cellOf b)) hmem
    exact ⟨hout.samePpu, hnmi, hfault, hpeek, hsp, ha, hx, hy, hbits 4 (by decide) (by decide), hbits 5 (by decide) (by decide)⟩
  · rw [onlyPc_of_mem hi h]
    exact ⟨⟨rfl, rfl, rfl, rfl, rfl, rfl⟩, rfl, rfl, fun _ => rfl, fun _ => rfl, fun _ => rfl, fun _ => rfl, fun _ => rfl, rfl, rfl⟩

end Sys2Proof.Proofs

namespace Sys2Proof.Proofs
open Sys2Proof Sys2Proof.Machine Sys2Proof.Claims

/-! ## Storage (R41, R42) -/

/-- Two addresses reach the same storage exactly if they reach the same cell. -/
theorem sameStorage_iff (a b : Word) : SameStorage a.toNat b.toNat ↔ cellOf a = cellOf b := by
  have ha := a.isLt
  have hb := b.isLt
  rw [cellOf_eq, cellOf_eq, SameStorage]
  split_ifs <;> omega

/-- MEM_INIT covers all addresses of a storage or none. -/
theorem hasMemInit_of_sameStorage {a b : Word} (h : SameStorage a.toNat b.toNat) (hb : hasMemInit b = true) :
    hasMemInit a = true := by
  rw [hasMemInit_iff] at hb ⊢
  unfold SameStorage at h
  omega

theorem cellOf_ppuRegister {addr : Word} (h : 0x2000 ≤ addr.toNat) (h' : addr.toNat < 0x4000) :
    cellOf addr = 0x2000 + addr.toNat % 8 := by
  rw [cellOf_eq, if_neg (by omega), if_pos h']

theorem cellOf_rom {addr : Word} (h : 0x8000 ≤ addr.toNat) : cellOf addr = 0x8000 + addr.toNat % 0x4000 := by
  rw [cellOf_eq, if_neg (by omega), if_neg (by omega), if_neg (by omega)]

theorem cellOf_lt_rom {addr : Word} (h : addr.toNat < 0x8000) : cellOf addr < 0x8000 := by
  rw [cellOf_eq]
  split_ifs <;> omega

/-- The router keeps what MEM_INIT covers apart from the PPU registers. -/
theorem cellOf_ne_ppuRegister_of_hasMemInit {a b : Word} (ha : hasMemInit a = true) (h : 0x2000 ≤ b.toNat) (h' : b.toNat < 0x4000) :
    cellOf a ≠ cellOf b := fun e => by
  have hb := hasMemInit_of_sameStorage ((sameStorage_iff b a).2 e.symm) ha
  rw [hasMemInit_iff] at hb
  omega

/-! ## MEM_INIT (R32, log 3) -/

/-- One entry of MEM_INIT stored. -/
def storeInit (m : Memory) (c : Word × Byte) : Memory := if hasMemInit c.1 then m.write (cellOf c.1) c.2 else m

theorem initialMemory_eq (par : Config.OpenParams) : initialMemory par = par.memInit.foldl storeInit [] := rfl

theorem storeInit_of_covered {c : Word × Byte} (h : hasMemInit c.1 = true) (m : Memory) : storeInit m c = m.write (cellOf c.1) c.2 :=
  if_pos h

theorem wf_storeInit {m : Memory} (h : m.wf) (c : Word × Byte) : (storeInit m c).wf := by
  unfold storeInit
  split
  · exact Memory.wf_write h (isCell_cellOf c.1) c.2
  · exact h

theorem read_storeInit_other {c : Word × Byte} {k : Nat} (h : hasMemInit c.1 = true → cellOf c.1 ≠ k) (m : Memory) :
    (storeInit m c).read k = m.read k := by
  unfold storeInit
  split
  · next hc => exact Memory.read_write_other m c.2 (h hc).symm
  · rfl

theorem wf_foldl_storeInit (l : List (Word × Byte)) {m : Memory} (h : m.wf) : (l.foldl storeInit m).wf := by
  induction l generalizing m with
  | nil => exact h
  | cons c l ih => exact ih (wf_storeInit h c)

theorem read_foldl_storeInit_other {l : List (Word × Byte)} {k : Nat} (h : ∀ c ∈ l, hasMemInit c.1 = true → cellOf c.1 ≠ k)
    (m : Memory) : (l.foldl storeInit m).read k = m.read k := by
  induction l generalizing m with
  | nil => rfl
  | cons c l ih =>
    obtain ⟨hc, hl⟩ := List.forall_mem_cons.1 h
    exact (ih hl (storeInit m c)).trans (read_storeInit_other hc m)

theorem wf_nil : Memory.wf [] := reset_mem_wf

theorem wf_initialMemory (par : Config.OpenParams) : (initialMemory par).wf := wf_foldl_storeInit par.memInit wf_nil

/-- A cell that MEM_INIT does not list holds 0. -/
theorem read_initialMemory_unlisted {par : Config.OpenParams} {k : Nat}
    (h : ∀ c ∈ par.memInit, hasMemInit c.1 = true → cellOf c.1 ≠ k) : (initialMemory par).read k = 0 :=
  read_foldl_storeInit_other h []

/-- A cell that MEM_INIT lists holds the byte it lists last. -/
theorem read_initialMemory_last {par : Config.OpenParams} {before after : List (Word × Byte)} {c : Word × Byte}
    (hl : par.memInit = before ++ c :: after) (hc : hasMemInit c.1 = true) (h : ∀ d ∈ after, cellOf d.1 ≠ cellOf c.1) :
    (initialMemory par).read (cellOf c.1) = c.2 := by
  rw [initialMemory_eq, hl, List.foldl_append, List.foldl_cons, read_foldl_storeInit_other (fun d hd _ => h d hd),
    storeInit_of_covered hc, Memory.read_write_same (wf_foldl_storeInit before wf_nil).1]

/-! ## The program image in the byte array (R51) -/

theorem mem_romCells {k : Nat} {bs : List Byte} {c : Host.Cell} (h : c ∈ romCells k bs) :
    k ≤ c.1 ∧ c.1 < k + bs.length ∧ c.2 ≠ Memory.unlisted c.1 := by
  induction bs generalizing k with
  | nil => exact absurd h List.not_mem_nil
  | cons b bs ih =>
    rw [List.length_cons]
    unfold romCells at h
    split at h
    · obtain ⟨h1, h2, h3⟩ := ih h
      exact ⟨by omega, by omega, h3⟩
    · next hb =>
      rcases List.mem_cons.1 h with rfl | h
      · exact ⟨le_rfl, by omega, hb⟩
      · obtain ⟨h1, h2, h3⟩ := ih h
        exact ⟨by omega, by omega, h3⟩

theorem rising_romCells (k : Nat) (bs : List Byte) : (romCells k bs).Pairwise (fun c d => c.1 < d.1) := by
  induction bs generalizing k with
  | nil => exact List.Pairwise.nil
  | cons b bs ih =>
    unfold romCells
    split
    · exact ih (k + 1)
    · exact List.pairwise_cons.2 ⟨fun c hc => (mem_romCells hc).1, ih (k + 1)⟩

theorem read_romCells (k j : Nat) (bs : List Byte) : (romCells k bs).read (k + j) = bs.getD j 0 := by
  induction bs generalizing k j with
  | nil => rfl
  | cons b bs ih =>
    have hrest : (romCells (k + 1) bs).read k = Memory.unlisted k := Memory.read_of_below (fun c hc => (mem_romCells hc).1)
    unfold romCells
    cases j with
    | zero =>
      split
      · next hb => exact hrest.trans hb.symm
      · exact if_pos rfl
    | succ j =>
      have hj := ih (k + 1) j
      rw [Nat.add_right_comm] at hj
      split
      · exact hj
      · exact (if_neg (by omega)).trans hj

theorem mem_belowRom {m : Memory} {c : Host.Cell} : c ∈ belowRom m ↔ c ∈ m ∧ c.1 < 0x8000 := by
  simp [belowRom]

/-- Reading past cells that are not the one read. -/
theorem read_append_of_ne {m m' : Memory} {k : Nat} (h : ∀ c ∈ m, c.1 ≠ k) : (m ++ m').read k = m'.read k := by
  induction m with
  | nil => rfl
  | cons c m ih =>
    obtain ⟨hc, hm⟩ := List.forall_mem_cons.1 h
    exact (if_neg hc).trans (ih hm)

/-- Below the program ROM a load changes nothing. -/
theorem read_loaded_of_lt {k : Nat} (hk : k < 0x8000) (m : Memory) (prg : List Byte) :
    (belowRom m ++ romCells 0x8000 prg).read k = m.read k := by
  induction m with
  | nil => exact Memory.read_of_below (fun c hc => hk.trans_le (mem_romCells hc).1)
  | cons c m ih =>
    by_cases hc : c.1 < 0x8000
    · have e : belowRom (c :: m) = c :: belowRom m := List.filter_cons_of_pos (decide_eq_true hc)
      rw [e, List.cons_append, Memory.read, Memory.read, ih]
    · have e : belowRom (c :: m) = belowRom m := List.filter_cons_of_neg (by simpa using hc)
      rw [e, ih, Memory.read, if_neg (by omega)]

/-- In the program ROM a load puts the image (R51). -/
theorem read_loaded_rom (m : Memory) (prg : List Byte) (j : Nat) :
    (belowRom m ++ romCells 0x8000 prg).read (0x8000 + j) = prg.getD j 0 := by
  rw [read_append_of_ne (fun c hc => by have := (mem_belowRom.1 hc).2; omega), read_romCells]

theorem wf_loaded {m : Memory} (h : m.wf) {prg : List Byte} (hp : prg.length = 16384) : (belowRom m ++ romCells 0x8000 prg).wf := by
  refine ⟨List.pairwise_append.2 ⟨h.1.filter _, rising_romCells _ _, fun c hc d hd => ?_⟩, fun c hc => ?_⟩
  · exact (mem_belowRom.1 hc).2.trans_le (mem_romCells hd).1
  · rcases List.mem_append.1 hc with hc | hc
    · exact h.2 c (mem_belowRom.1 hc).1
    · obtain ⟨h1, h2, h3⟩ := mem_romCells hc
      refine ⟨?_, h3⟩
      rw [hp] at h2
      simp only [isCell_eq, Bool.or_eq_true, Bool.and_eq_true, decide_eq_true_eq]
      omega

/-! ## Power-on (R32, R362 to R365) -/

theorem resetRegisters_eq (par : Config.OpenParams) (s : State) : resetRegisters par s =
    { s with
      a := 0x00, x := 0x00, y := 0x00
      p := par.resetP
      sp := 0xFD
      pc := word (peek s 0xFFFD) (peek s 0xFFFC)
      nmiPending := false
      cycleCount := 0 } := by
  simp only [resetRegisters, config_vecReset, read16_of_ge (addr := 0xFFFC) (by decide) (by decide)]
  rfl

/-- The byte array after power-on. -/
def powerOnMem (par : Config.OpenParams) (prg : List Byte) : Memory := belowRom (initialMemory par) ++ romCells 0x8000 prg

/-- The machine after power-on. -/
def powerOnState (par : Config.OpenParams) (prg : List Byte) : State :=
  { mem := powerOnMem par prg, a := 0x00, x := 0x00, y := 0x00, p := par.resetP, sp := 0xFD
    pc := word (prg.getD 0x3FFD 0) (prg.getD 0x3FFC 0), nmiPending := false, cycleCount := 0, fault := none
    cycle := par.ppuInit.1, scanline := par.ppuInit.2.1, frameCount := par.ppuInit.2.2, w := false
    suppressVbl := false, suppressNmi := false }

theorem powerOn_eq (par : Config.OpenParams) {prg : List Byte} (h : prg.length = 16384) :
    powerOn par prg = .next (powerOnState par prg) := by
  have hi : (powerOnMem par prg).read (cellOf 0xFFFD) = prg.getD 0x3FFD 0 := read_loaded_rom _ prg 0x3FFD
  have lo : (powerOnMem par prg).read (cellOf 0xFFFC) = prg.getD 0x3FFC 0 := read_loaded_rom _ prg 0x3FFC
  rw [powerOn, loadRom_eq h rfl]
  change Host.Outcome.next (cpuReset par ((initialState par).withMem (powerOnMem par prg))) = _
  rw [cpuReset_eq rfl, resetRegisters_eq, powerOnState, ← hi, ← lo]
  rfl

section
variable {par : Config.OpenParams} {prg : List Byte} {addr : Word}

theorem peek_powerOnState_rom (h : 0x8000 ≤ addr.toNat) : peek (powerOnState par prg) addr = prg.getD (addr.toNat % 0x4000) 0 := by
  rw [peek, cellOf_rom h]
  exact read_loaded_rom _ prg _

theorem peek_powerOnState_of_lt (h : addr.toNat < 0x8000) :
    peek (powerOnState par prg) addr = (initialMemory par).read (cellOf addr) := read_loaded_of_lt (cellOf_lt_rom h) _ prg

theorem peek_powerOnState_unlisted (h : addr.toNat < 0x8000)
    (hl : ∀ c ∈ par.memInit, hasMemInit c.1 = true → cellOf c.1 ≠ cellOf addr) : peek (powerOnState par prg) addr = 0 :=
  (peek_powerOnState_of_lt h).trans (read_initialMemory_unlisted hl)

/-- The byte listed last for the storage of an address that MEM_INIT covers. -/
theorem peek_powerOnState_last (hcov : hasMemInit addr = true) (h : addr.toNat < 0x8000) {before after : List (Word × Byte)}
    {c : Word × Byte} (hl : par.memInit = before ++ c :: after) (hc : SameStorage c.1.toNat addr.toNat)
    (hafter : ∀ d ∈ after, ¬SameStorage d.1.toNat addr.toNat) : peek (powerOnState par prg) addr = c.2 := by
  have e := (sameStorage_iff c.1 addr).1 hc
  rw [peek_powerOnState_of_lt h, ← e]
  refine read_initialMemory_last hl (hasMemInit_of_sameStorage hc hcov) (fun d hd he => ?_)
  exact hafter d hd ((sameStorage_iff d.1 addr).2 (he.trans e))

end

/-- Settles O20: power-on stores MEM_INIT entry by entry, puts the image above it and takes `pc` from the image's reset vector. -/
theorem powerOnGivesStartState : Obligations.PowerOnGivesStartState := by
  intro par prg hlen
  refine ⟨powerOnState par prg, powerOn_eq par hlen, rfl, wf_loaded (wf_initialMemory par) hlen, fun addr => peek_powerOnState_rom,
    fun addr h h' => ?_, fun addr h => ?_, rfl⟩
  · exact peek_powerOnState_unlisted (by omega) (fun c _ hc => cellOf_ne_ppuRegister_of_hasMemInit hc h h')
  · have hlt : addr.toNat < 0x8000 := by omega
    refine ⟨fun hnone => ?_, fun before c after => ?_⟩
    · exact peek_powerOnState_unlisted hlt (fun c hc _ he => hnone c hc ((sameStorage_iff c.1 addr).2 he))
    · exact peek_powerOnState_last ((hasMemInit_iff addr).2 h) hlt

end Sys2Proof.Proofs

namespace Sys2Proof.Proofs
open Sys2Proof Sys2Proof.Machine Sys2Proof.Claims

/-! ## The program ROM is out of every step's reach (R50) -/

theorem read_setStatus_other {k : Nat} (h : k ≠ statusCell) (v : Byte) (s : State) :
    (setStatus v s).mem.read k = s.mem.read k := Memory.read_write_other s.mem v h

/-- A tick writes no cell but the status byte's (R322 to R326). -/
theorem read_ppuTick_other {k : Nat} (h : k ≠ statusCell) (s : State) : (ppuTick s).mem.read k = s.mem.read k := by
  have hadvance : (ppuAdvance s).mem = s.mem := by rw [ppuAdvance_eq]
  rw [ppuTick, ← hadvance]
  rcases ppuEvents_cases (ppuAdvance s) with ⟨-, -, -, e⟩ | ⟨-, e⟩ | ⟨-, e⟩ | ⟨-, e⟩ <;> rw [e]
  · unfold vblankSet
    split
    · rfl
    · exact read_setStatus_other h _ _
  · exact read_setStatus_other h _ _
  · exact (read_setStatus_other h _ _).trans (read_setStatus_other h _ _)

theorem read_ppuTicks_other {k : Nat} (h : k ≠ statusCell) (n : Nat) (s : State) :
    (ppuTicks n s).mem.read k = s.mem.read k := by
  induction n generalizing s with
  | zero => rfl
  | succ n ih => exact (ih (ppuTick s)).trans (read_ppuTick_other h s)

theorem read_settle_other {k : Nat} (h : k ≠ statusCell) (s : State) : (settle s).mem.read k = s.mem.read k := by
  unfold settle unlessFaulted
  split
  · rfl
  · exact read_ppuTicks_other h _ s

/-- A CPU step is made of bus accesses and register changes, and no bus access writes the program ROM. -/
theorem read_cpuStep_rom {s t : State} (h : cpuStep s = .next t) {k : Nat} (hk : 0x8000 ≤ k) : t.mem.read k = s.mem.read k := by
  have hfetched : ∀ {r s1}, fetchInstr (s.withCycles 0) = (r, s1) → s1.mem.read k = s.mem.read k := fun {r s1} hf => by
    have hr := (busReach_fetchInstr (s.withCycles 0)).rom hk
    rwa [hf] at hr
  obtain ⟨-, ⟨-, rfl⟩ | ⟨op, s1, -, hfetch, rfl⟩ | ⟨i, s1, -, hfetch, hexec⟩⟩ := cpuStep_cases h
  · exact ((BusReach.refl { s with nmiPending := false, cycleCount := 0 }).interruptEntry _ _ _).rom hk
  · exact (hfetched hfetch : s1.mem.read k = s.mem.read k)
  · exact ((busReach_exec hexec).rom hk).trans (hfetched hfetch)

/-- Settles O13: neither the CPU step nor its ticks write a cell of the program ROM, and an address from 0x8000 up reads one. -/
theorem stepKeepsProgramRom : Obligations.StepKeepsProgramRom := by
  intro s t addr hstep haddr
  obtain ⟨u, hu, rfl⟩ := step_eq_settle hstep
  have hcell : 0x8000 ≤ cellOf addr := cellOf_rom haddr ▸ Nat.le_add_right _ _
  exact (read_settle_other (by rw [statusCell_eq]; omega) u).trans (read_cpuStep_rom hu hcell)

end Sys2Proof.Proofs

namespace Sys2Proof.Proofs
open Sys2Proof Sys2Proof.Machine Sys2Proof.Claims

/-! ## An unfaulted machine steps (R300, R341) -/

/-- The bytes without a row in the opcode table are those R91 lists. -/
theorem lookup_isNone_iff (op : Byte) : (lookup op).isNone ↔ op ∈ unknownOpcodes := by
  revert op
  decide +kernel

/-- A fetch that answers an opcode byte found no row for it. -/
theorem mem_unknownOpcodes_of_fetchInstr {s s1 : State} {op : Byte} (h : fetchInstr s = (.error op, s1)) : op ∈ unknownOpcodes := by
  unfold fetchInstr at h
  split at h
  · next hnone =>
    obtain ⟨rfl, -⟩ := h
    rw [← lookup_isNone_iff, hnone]
    rfl
  · cases h

theorem cpuStep_answers {s : State} (h : s.fault = none) : ∃ t, cpuStep s = .next t := by
  unfold cpuStep
  rw [h]
  simp only
  split
  · exact ⟨_, rfl⟩
  · split
    · exact ⟨_, rfl⟩
    · exact exec_answers _ _

theorem step_answers {s : State} (h : s.fault = none) : ∃ t, step s = .next t := by
  obtain ⟨u, hu⟩ := cpuStep_answers h
  exact ⟨settle u, by rw [step, systemStep, hu]⟩

/-- The only fault a CPU step can record is an unknown opcode: bus accesses record none. -/
theorem fault_cpuStep {s t : State} (h : cpuStep s = .next t) :
    t.fault = none ∨ ∃ op ∈ unknownOpcodes, t.fault = some (.unknownOpcode op) := by
  obtain ⟨hs, ⟨-, rfl⟩ | ⟨op, s1, -, hfetch, rfl⟩ | ⟨i, s1, -, hfetch, hexec⟩⟩ := cpuStep_cases h
  · rw [nmiEntry_eq]
    exact .inl hs
  · exact .inr ⟨op, mem_unknownOpcodes_of_fetchInstr hfetch, rfl⟩
  · obtain ⟨-, -, -, -, hfetched⟩ := (busReach_fetchInstr (s.withCycles 0)).outside
    obtain ⟨-, -, -, -, hrun⟩ := (busReach_exec hexec).outside
    rw [hfetch] at hfetched
    exact .inl (hrun.trans (hfetched.trans hs))

/-- Settles O8: every instruction and the NMI entry answer a next state without a fault, and the fetch of an unknown opcode one
with its record; the ticks leave the record. -/
theorem unfaultedStepAnswersNext : Obligations.UnfaultedStepAnswersNext := by
  intro s hs
  obtain ⟨t, hstep⟩ := step_answers hs
  obtain ⟨u, hu, rfl⟩ := step_eq_settle hstep
  obtain ⟨-, -, hfault⟩ := settle_frame u
  refine ⟨settle u, hstep, ?_⟩
  rw [hfault]
  exact fault_cpuStep hu

end Sys2Proof.Proofs

namespace Sys2Proof.Proofs
open Sys2Proof Sys2Proof.Machine Sys2Proof.Claims

/-! ## A loaded program image on the bus (R49, R51) -/

/-- A read of the program ROM has no side effect. -/
theorem memRead_of_rom {addr : Word} (h : 0x8000 ≤ addr.toNat) (s : State) : memRead addr s = (peek s addr, s) :=
  Prod.ext (memRead_fst addr s) (memRead_snd_of_ne (canon_ne_status_of_ge (by omega)) s)

/-- The state after `loadRom` of an image of the one size. -/
def loaded (prg : List Byte) (s : State) : State := s.withMem (belowRom s.mem ++ romCells 0x8000 prg)

/-- An image of another size is refused by name (D17). -/
theorem loadRom_of_size_ne {prg : List Byte} (h : prg.length ≠ 16384) {s : State} (hs : s.fault = none) :
    loadRom prg s = .refused (.romImageSize prg.length) := by
  simp [loadRom, hs, wellFormedImage, h]

theorem memRead_loaded {addr : Word} {prg : List Byte} {k : Nat} (h : 0x8000 ≤ addr.toNat) (hk : addr.toNat % 0x4000 = k)
    (s : State) : memRead addr (loaded prg s) = (prg.getD k 0, loaded prg s) := by
  rw [memRead_of_rom h, peek, cellOf_rom h, hk]
  exact congrArg (·, loaded prg s) (read_loaded_rom s.mem prg k)

/-- Settles O19: both images of the program ROM reach the cells the load fills, and the load leaves every cell below them. -/
theorem loadedRomIsMirrored : Obligations.LoadedRomIsMirrored := by
  intro prg s hs
  refine ⟨fun hlen => ?_, fun hlen => loadRom_of_size_ne hlen hs⟩
  refine ⟨loaded prg s, loadRom_eq hlen hs, rfl, fun hwf => wf_loaded hwf hlen, fun k hk => ?_, fun addr haddr => ?_⟩
  · have hlow : (BitVec.ofNat 16 (0x8000 + k)).toNat = 0x8000 + k := by rw [BitVec.toNat_ofNat]; omega
    have hhigh : (BitVec.ofNat 16 (0xC000 + k)).toNat = 0xC000 + k := by rw [BitVec.toNat_ofNat]; omega
    exact ⟨memRead_loaded (by omega) (by omega) s, memRead_loaded (by omega) (by omega) s⟩
  · exact read_loaded_of_lt (cellOf_lt_rom haddr) s.mem prg

end Sys2Proof.Proofs

namespace Sys2Proof.Proofs
open Sys2Proof Sys2Proof.Machine Sys2Proof.Claims

/-! ## Bus accesses by the numbers of their addresses (R43, R44) -/

/-- The addresses that reach PPU register `i` (R46). -/
theorem cellOf_eq_ppuRegister_iff (addr : Word) {i : Nat} (hi : i < 8) :
    cellOf addr = 0x2000 + i ↔ 0x2000 ≤ addr.toNat ∧ addr.toNat < 0x4000 ∧ addr.toNat % 8 = i := by
  have := addr.isLt
  rw [cellOf_eq]
  split_ifs <;> omega

/-- A write stores its byte exactly below the program ROM and outside the status register. -/
theorem writable_iff (addr : Word) : Writable addr.toNat ↔ addr.toNat < 0x8000 ∧ cellOf addr ≠ statusCell := by
  rw [Writable, statusCell_eq, ← cellOf_eq_ppuRegister_iff addr (i := 2) (by decide)]

theorem memWrite_of_writable {a : Word} (h : Writable a.toNat) (v : Byte) (s : State) : memWrite a v s =
    { s with
      mem := s.mem.write (cellOf a) v
      w := if cellOf a = 0x2005 ∨ cellOf a = 0x2006 then !s.w else s.w } := by
  rw [memWrite_eq, if_pos ((writable_iff a).1 h)]

/-- The program ROM and the status register ignore a write (R50, R332). -/
theorem memWrite_of_not_writable {a : Word} (h : ¬Writable a.toNat) (v : Byte) (s : State) : memWrite a v s = s := by
  rw [memWrite_eq, if_neg (mt (writable_iff a).2 h)]

theorem peek_memWrite_same {s : State} (hs : s.mem.wf) {a b : Word} (ha : Writable a.toNat) (hab : SameStorage a.toNat b.toNat)
    (v : Byte) : peek (memWrite a v s) b = v := by
  rw [memWrite_of_writable ha, peek, ← (sameStorage_iff a b).1 hab]
  exact Memory.read_write_same hs.1 (cellOf a) v

theorem peek_memWrite_ignored {a b : Word} (h : ¬(Writable a.toNat ∧ SameStorage a.toNat b.toNat)) (v : Byte) (s : State) :
    peek (memWrite a v s) b = peek s b := by
  by_cases ha : Writable a.toNat
  · refine peek_memWrite_other (fun e => h ⟨ha, ?_⟩) v s
    exact (sameStorage_iff a b).2 e.symm
  · rw [memWrite_of_not_writable ha]

/-- A write flips `w` exactly at an image of PPU register 5 or 6 (R331). -/
theorem memWrite_w (a : Word) (v : Byte) (s : State) : (memWrite a v s).w =
    (s.w ^^ decide (0x2000 ≤ a.toNat ∧ a.toNat < 0x4000 ∧ (a.toNat % 8 = 5 ∨ a.toNat % 8 = 6))) := by
  have hflip : (cellOf a = 0x2005 ∨ cellOf a = 0x2006) ↔
      0x2000 ≤ a.toNat ∧ a.toNat < 0x4000 ∧ (a.toNat % 8 = 5 ∨ a.toNat % 8 = 6) := by
    rw [cellOf_eq_ppuRegister_iff a (i := 5) (by decide), cellOf_eq_ppuRegister_iff a (i := 6) (by decide)]
    tauto
  by_cases ha : Writable a.toNat
  · rw [memWrite_of_writable ha]
    simp only [← hflip]
    split
    · next h56 => rw [decide_eq_true h56, Bool.xor_true]
    · next h56 => rw [decide_eq_false h56, Bool.xor_false]
  · have hno : ¬(0x2000 ≤ a.toNat ∧ a.toNat < 0x4000 ∧ (a.toNat % 8 = 5 ∨ a.toNat % 8 = 6)) := by
      unfold Writable at ha
      omega
    rw [memWrite_of_not_writable ha, decide_eq_false hno, Bool.xor_false]

/-- Settles O22: a write is one cell and perhaps the toggle or nothing, and the cells are the storages. -/
theorem busWriteStoresOneCell : Obligations.BusWriteStoresOneCell := by
  intro s a b v hwf
  exact ⟨fun ⟨ha, hab⟩ => peek_memWrite_same hwf ha hab v, fun h => peek_memWrite_ignored h v s, memWrite_w a v s,
    memWrite_frame a v s⟩

/-- Settles O23: reads by the laws of the bus, the status register being told by its cell; operands by the laws of the modes. -/
theorem readsAreIdempotentButStatus : Obligations.ReadsAreIdempotentButStatus := by
  intro s a v m
  refine ⟨memRead_fst a s, fun h => memRead_snd_of_ne (fun hcanon => h ?_) s, readSource_imm v s, readSource_mem m s⟩
  exact (cellOf_eq_ppuRegister_iff a (by decide)).1 ((canon_eq_status_iff a).1 hcanon)

end Sys2Proof.Proofs

namespace Sys2Proof.Proofs
open Sys2Proof Sys2Proof.Machine Sys2Proof.Claims

/-! ## Words of the opcode map (R89, R90) -/

/-- Settles O1: each word is closed, and the decoder evaluates to what the opcode map gives. -/
theorem specWordsDecode : Obligations.SpecWordsDecode :=
  ⟨rfl, rfl, rfl, rfl, rfl, rfl, rfl, rfl, rfl, rfl, rfl, rfl, rfl, rfl, rfl, rfl, rfl⟩

end Sys2Proof.Proofs

namespace Sys2Proof.Proofs
open Sys2Proof Sys2Proof.Machine Sys2Proof.Claims Sys2Proof.Laws

/-! ## The rows of the opcode table (R70, R89, R90) -/

@[simp] theorem length_f1 (op : Byte) (i : Instr) : (f1 op i).length = 1 := rfl
@[simp] theorem length_f2 (op : Byte) (f : Byte → Instr) : (f2 op f).length = 2 := rfl
@[simp] theorem length_f3 (op : Byte) (f : Word → Instr) : (f3 op f).length = 3 := rfl
@[simp] theorem length_fs (op : Byte) (length : Nat) (i : Instr) : (fs op length i).length = length := rfl

/-- A row of one of the formats of R70, or of a skip opcode (R90), whose instructions have the opcode byte and the length of the
row; the bytes after an official opcode are the operand bytes. -/
inductive FormatRow : Row → Prop where
  | f1 {op : Byte} {i : Instr} (h : encode i = [op]) : FormatRow (f1 op i)
  | f2 {op : Byte} {f : Byte → Instr} (h : ∀ b, encode (f b) = [op, b]) : FormatRow (f2 op f)
  | f3 {op : Byte} {f : Word → Instr} (h : ∀ w, encode (f w) = [op, lo8 w, hi8 w]) : FormatRow (f3 op f)
  | fs {op : Byte} {length : Nat} {i : Instr} (hop : (encode i).head? = some op) (hlength : (encode i).length = length)
      (hmax : length ≤ 3) : FormatRow (fs op length i)

/-- The encoder gives a skip opcode the byte and the length of its row, at most 3 (R90). -/
theorem encode_of_mem_skipForms : ∀ f ∈ skipForms,
    (encode f.instr).head? = some f.opcode ∧ (encode f.instr).length = f.length ∧ f.length ≤ 3 := by decide +kernel

theorem rowsSkip_eq_map : rowsSkip = skipForms.map (fun f => fs f.opcode f.length f.instr) := rfl

theorem formatRow_rowsSkip : ∀ r ∈ rowsSkip, FormatRow r := by
  rw [rowsSkip_eq_map, List.forall_mem_map]
  intro f hf
  obtain ⟨hop, hlength, hmax⟩ := encode_of_mem_skipForms f hf
  exact .fs hop hlength hmax

/-- Every row of the table has a format: the function its list writes it with picks the constructor, and the bytes the constructor
asks for are the encoder's by computation. -/
theorem formatRow_of_mem {r : Row} (h : r ∈ opcodeTable) : FormatRow r := by
  revert r
  simp only [opcodeTable, rowsLoadStore, rowsTransfer, rowsStack, rowsLogic, rowsArith, rowsIncDec, rowsShift, rowsJump, rowsBranch,
    rowsFlagSystem, List.forall_mem_append, List.forall_mem_cons, List.not_mem_nil, false_implies, implies_true, and_true]
  refine ⟨?_, formatRow_rowsSkip⟩
  and_intros <;> constructor
  all_goals intros; rfl

namespace FormatRow

variable {r : Row}

theorem length_bounds (h : FormatRow r) : 1 ≤ r.length ∧ r.length ≤ 3 := by
  cases h with
  | f1 | f2 | f3 => simp
  | fs hop hlength hmax =>
    refine ⟨?_, hmax⟩
    rw [length_fs, ← hlength]
    exact List.length_pos_of_mem (List.mem_of_head? hop)

/-- The instruction a row builds has the opcode byte and the length of the row. -/
theorem head_length_encode (h : FormatRow r) (b0 b1 : Byte) :
    (encode (r.build b0 b1)).head? = some r.opcode ∧ (encode (r.build b0 b1)).length = r.length := by
  cases h with
  | f1 h => exact ⟨congrArg List.head? h, congrArg List.length h⟩
  | f2 h => exact ⟨congrArg List.head? (h b0), congrArg List.length (h b0)⟩
  | f3 h => exact ⟨congrArg List.head? (h (word b1 b0)), congrArg List.length (h (word b1 b0))⟩
  | fs hop hlength => exact ⟨hop, hlength⟩

/-- An official row builds the instruction whose bytes it was given. -/
theorem encode_build (h : FormatRow r) (hcls : r.cls = .official) {bs : List Byte} (hlen : r.length ≤ bs.length + 1) :
    encode (r.build (bs.getD 0 0) (bs.getD 1 0)) = r.opcode :: bs.take (r.length - 1) := by
  cases h with
  | f1 h => exact h
  | f2 h =>
    obtain _ | ⟨b0, bs⟩ := bs
    · simp at hlen
    · exact h b0
  | f3 h =>
    obtain _ | ⟨b0, _ | ⟨b1, bs⟩⟩ := bs
    · simp at hlen
    · simp at hlen
    · refine (h (word b1 b0)).trans ?_
      rw [lo8_word, hi8_word]
      rfl
  | fs => cases hcls

/-- A row does not look at the bytes after its instruction. -/
theorem build_append (h : FormatRow r) {bs : List Byte} (hlen : r.length = bs.length + 1) (rest : List Byte) :
    r.build ((bs ++ rest).getD 0 0) ((bs ++ rest).getD 1 0) = r.build (bs.getD 0 0) (bs.getD 1 0) := by
  cases h with
  | f1 | fs => rfl
  | f2 =>
    obtain _ | ⟨b0, bs⟩ := bs
    · cases hlen
    · rfl
  | f3 =>
    obtain _ | ⟨b0, _ | ⟨b1, bs⟩⟩ := bs
    · cases hlen
    · cases hlen
    · rfl

end FormatRow

/-! ## The decoder over the rows (R70, R72) -/

theorem formatRow_of_lookup {op : Byte} {r : Row} (h : lookup op = some r) : FormatRow r :=
  formatRow_of_mem (List.mem_of_find?_eq_some h)

theorem opcode_of_lookup {op : Byte} {r : Row} (h : lookup op = some r) : r.opcode = op :=
  beq_iff_eq.1 (List.find?_some (p := fun q : Row => q.opcode == op) h)

theorem classify_of_lookup {op : Byte} {r : Row} (h : lookup op = some r) : classify op = r.cls := by
  rw [classify, h]
  rfl

/-- Decoding with the row of the first byte. -/
theorem decode_of_lookup {op : Byte} {r : Row} (h : lookup op = some r) {bs : List Byte} (hlen : r.length ≤ bs.length + 1) :
    decode (op :: bs) = .ok (r.build (bs.getD 0 0) (bs.getD 1 0), bs.drop (r.length - 1)) := by
  rw [decode, h]
  exact if_neg (Nat.not_lt.2 hlen)

/-- Bytes that decode have a row for the first byte and are long enough for it. -/
theorem lookup_of_decode {op : Byte} {bs rest : List Byte} {i : Instr} (h : decode (op :: bs) = .ok (i, rest)) :
    ∃ r, lookup op = some r ∧ r.length ≤ bs.length + 1 ∧ i = r.build (bs.getD 0 0) (bs.getD 1 0) ∧
      rest = bs.drop (r.length - 1) := by
  rw [decode] at h
  split at h
  · cases h
  · next r hr =>
    split at h
    · cases h
    · next hlen =>
      cases h
      exact ⟨r, hr, Nat.not_lt.1 hlen, rfl, rfl⟩

/-- The row of every instruction (R89, R90), in the order of the constructors. -/
theorem rows_statement (i : Instr) : Rows.Statement i :=
  Instr.casesOn i
    Rows.ldaImm Rows.ldaZp Rows.ldaZpx Rows.ldaAbs Rows.ldaAbx Rows.ldaAby Rows.ldaIzx Rows.ldaIzy Rows.ldxImm Rows.ldxZp
    Rows.ldxZpy Rows.ldxAbs Rows.ldxAby Rows.ldyImm Rows.ldyZp Rows.ldyZpx Rows.ldyAbs Rows.ldyAbx Rows.staZp Rows.staZpx
    Rows.staAbs Rows.staAbx Rows.staAby Rows.staIzx Rows.staIzy Rows.stxZp Rows.stxZpy Rows.stxAbs Rows.styZp Rows.styZpx
    Rows.styAbs Rows.tax Rows.tay Rows.txa Rows.tya Rows.tsx Rows.txs Rows.pha Rows.php Rows.pla Rows.plp Rows.andImm
    Rows.andZp Rows.andZpx Rows.andAbs Rows.andAbx Rows.andAby Rows.andIzx Rows.andIzy Rows.oraImm Rows.oraZp Rows.oraZpx
    Rows.oraAbs Rows.oraAbx Rows.oraAby Rows.oraIzx Rows.oraIzy Rows.eorImm Rows.eorZp Rows.eorZpx Rows.eorAbs Rows.eorAbx
    Rows.eorAby Rows.eorIzx Rows.eorIzy Rows.bitZp Rows.bitAbs Rows.adcImm Rows.adcZp Rows.adcZpx Rows.adcAbs Rows.adcAbx
    Rows.adcAby Rows.adcIzx Rows.adcIzy Rows.sbcImm Rows.sbcZp Rows.sbcZpx Rows.sbcAbs Rows.sbcAbx Rows.sbcAby Rows.sbcIzx
    Rows.sbcIzy Rows.cmpImm Rows.cmpZp Rows.cmpZpx Rows.cmpAbs Rows.cmpAbx Rows.cmpAby Rows.cmpIzx Rows.cmpIzy Rows.cpxImm
    Rows.cpxZp Rows.cpxAbs Rows.cpyImm Rows.cpyZp Rows.cpyAbs Rows.incZp Rows.incZpx Rows.incAbs Rows.incAbx Rows.decZp
    Rows.decZpx Rows.decAbs Rows.decAbx Rows.inx Rows.iny Rows.dex Rows.dey Rows.aslAcc Rows.aslZp Rows.aslZpx Rows.aslAbs
    Rows.aslAbx Rows.lsrAcc Rows.lsrZp Rows.lsrZpx Rows.lsrAbs Rows.lsrAbx Rows.rolAcc Rows.rolZp Rows.rolZpx Rows.rolAbs
    Rows.rolAbx Rows.rorAcc Rows.rorZp Rows.rorZpx Rows.rorAbs Rows.rorAbx Rows.jmpAbs Rows.jmpInd Rows.jsr Rows.rts Rows.bcc
    Rows.bcs Rows.beq Rows.bmi Rows.bne Rows.bpl Rows.bvc Rows.bvs Rows.clc Rows.cld Rows.cli Rows.clv Rows.sec Rows.sed
    Rows.sei Rows.nop Rows.brk Rows.rti Rows.skip04 Rows.skip0C Rows.skip14 Rows.skip1A Rows.skip1C Rows.skip34 Rows.skip3A
    Rows.skip3C Rows.skip44 Rows.skip54 Rows.skip5A Rows.skip5C Rows.skip64 Rows.skip74 Rows.skip7A Rows.skip7C Rows.skip80
    Rows.skip82 Rows.skip89 Rows.skipC2 Rows.skipD4 Rows.skipDA Rows.skipDC Rows.skipE2 Rows.skipF4 Rows.skipFA Rows.skipFC

/-- Settles O2: the bytes of an instruction select its row, which builds it back and does not look at what follows. -/
theorem decodeEncodeAgree : Obligations.DecodeEncodeAgree := by
  intro i rest
  obtain ⟨op, bs, r, hbytes, hrow, hlen, hbuild⟩ := rows_statement i
  have hlong : r.length ≤ (bs ++ rest).length + 1 := by
    rw [List.length_append]
    omega
  rw [hbytes, List.cons_append, decode_of_lookup hrow hlong, (formatRow_of_lookup hrow).build_append hlen, hbuild, hlen,
    Nat.add_sub_cancel, List.drop_left]

/-- Settles O3: the row of the first byte has it as opcode byte; an official row gives the operand bytes back, a skip row the
length. -/
theorem decodedBytesReencode : Obligations.DecodedBytesReencode := by
  intro op bs i rest h
  obtain ⟨r, hrow, hlen, rfl, rfl⟩ := lookup_of_decode h
  have hformat := formatRow_of_lookup hrow
  obtain ⟨hpos, -⟩ := hformat.length_bounds
  rw [classify_of_lookup hrow, ← opcode_of_lookup hrow]
  refine ⟨fun hofficial => ?_, fun _ => ?_⟩
  · rw [hformat.encode_build hofficial hlen, List.cons_append, List.take_append_drop]
  · obtain ⟨hhead, hlength⟩ := hformat.head_length_encode (bs.getD 0 0) (bs.getD 1 0)
    refine ⟨hhead, hlength.trans_le hlen, ?_⟩
    rw [hlength, List.drop_cons hpos]

/-- Settles O4: the listed bytes are those without a row, and three bytes are enough for every row. -/
theorem unknownOpcodesAreRefused : Obligations.UnknownOpcodesAreRefused := by
  intro op b1 b2 rest
  rw [← lookup_isNone_iff]
  cases hrow : lookup op with
  | none =>
    refine ⟨fun _ => ?_, fun h => absurd rfl h⟩
    rw [decode, hrow]
  | some r =>
    have hformat := formatRow_of_lookup hrow
    obtain ⟨hpos, hmax⟩ := hformat.length_bounds
    obtain ⟨hhead, hlength⟩ := hformat.head_length_encode b1 b2
    refine ⟨nofun, fun _ => ⟨r.build b1 b2, opcode_of_lookup hrow ▸ hhead, hlength ▸ hpos, hlength ▸ hmax, ?_⟩⟩
    rw [decode_of_lookup hrow (by simp only [List.length_cons]; omega), hlength, List.drop_cons hpos]
    rfl

end Sys2Proof.Proofs

namespace Sys2Proof.Proofs
open Sys2Proof Sys2Proof.Machine Sys2Proof.Claims Sys2Proof.Laws

/-! ## Effective addresses as numbers (R76 to R84) -/

theorem toNat_add_zext16 (w : Word) (b : Byte) : (w + zext16 b).toNat = (w.toNat + b.toNat) % 65536 := by
  rw [BitVec.toNat_add, zext16_toNat]

/-- An indexed address wraps at the top of the space, and its page is told by the numbers. -/
theorem indexed_toNat (base : Word) (index : Byte) (s : State) :
    (indexed base index s).ea.toNat = (base.toNat + index.toNat) % 65536 ∧
    (indexed base index s).crossed = decide ((base.toNat + index.toNat) % 65536 / 256 ≠ base.toNat / 256) := by
  refine ⟨toNat_add_zext16 base index, ?_⟩
  rw [Bool.eq_iff_iff, decide_eq_true_iff, ← toNat_add_zext16]
  exact pageCrossed_iff (base + zext16 index) base

/-- The word at the pointer `k`, both bytes from page 0. -/
theorem zpPointer_toNat {s : State} {zero : Nat → Nat}
    (hzero : ∀ k, zero k = (peek s (BitVec.ofNat 16 (k % 256))).toNat + 256 * (peek s (BitVec.ofNat 16 ((k + 1) % 256))).toNat)
    {z : Byte} {k : Nat} (hk : z.toNat = k % 256) : (zpPointer z s).1.toNat = zero k := by
  have one : (1 : Byte).toNat = 1 := rfl
  have hlow : zext16 z = BitVec.ofNat 16 (k % 256) := BitVec.eq_of_toNat_eq (by
    rw [zext16_toNat, BitVec.toNat_ofNat]
    omega)
  have hhigh : zext16 (z + 1) = BitVec.ofNat 16 ((k + 1) % 256) := BitVec.eq_of_toNat_eq (by
    rw [zext16_toNat, BitVec.toNat_ofNat, BitVec.toNat_add, hk, one]
    omega)
  rw [zpPointer_eq, word_toNat, hlow, hhigh, hzero]
  omega

/-- Settles O32: zero-page sums wrap at 256, indexed sums at 65536, and pointers are words of page 0. -/
theorem addressingModesLocate : Obligations.AddressingModesLocate := by
  intro s z addr zero hzero
  have hizx : (zpPointer (z + s.x) s).1.toNat = zero (z.toNat + s.x.toNat) := zpPointer_toNat hzero (BitVec.toNat_add z s.x)
  have hizy : (zpPointer z s).1.toNat = zero z.toNat := zpPointer_toNat hzero (Nat.mod_eq_of_lt z.isLt).symm
  refine ⟨fun m => locate_state m s, ⟨zext16_toNat z, rfl⟩, ⟨?_, rfl⟩, ⟨?_, rfl⟩, ⟨rfl, rfl⟩, indexed_toNat addr s.x s,
    indexed_toNat addr s.y s, ⟨hizx, rfl⟩, ?_⟩
  · exact (zext16_toNat (z + s.x)).trans (BitVec.toNat_add z s.x)
  · exact (zext16_toNat (z + s.y)).trans (BitVec.toNat_add z s.y)
  · rw [← hizy]
    exact indexed_toNat (zpPointer z s).1 s.y (zpPointer z s).2

end Sys2Proof.Proofs

namespace Sys2Proof.Proofs
open Sys2Proof Sys2Proof.Machine Sys2Proof.Claims

/-! ## Skip opcodes (R90, R200) -/

theorem skipBytes_eq (length cycles : Nat) (s : State) : skipBytes length cycles s =
    .next { s with pc := BitVec.ofNat 16 (s.pc.toNat + (length - 1)), cycleCount := cycles } := by
  have hpc : s.pc + BitVec.ofNat 16 (length - 1) = BitVec.ofNat 16 (s.pc.toNat + (length - 1)) := by
    rw [BitVec.ofNat_add, BitVec.ofNat_toNat, BitVec.setWidth_eq]
  rw [← hpc]
  rfl

/-- Settles O53: each row's bytes are the encoder's, and its meaning is the one skip operation. -/
theorem skipOpcodesOnlyAdvance : Obligations.SkipOpcodesOnlyAdvance := by
  intro s f hf
  obtain ⟨hop, hlength, -⟩ := encode_of_mem_skipForms f hf
  exact ⟨hop, hlength, (exec_of_mem_skipForms f hf s).trans (skipBytes_eq f.length f.cycles s)⟩

end Sys2Proof.Proofs

namespace Sys2Proof.Proofs
open Sys2Proof Sys2Proof.Machine Sys2Proof.Claims

/-! ## Store-type instructions (R86, R103 to R105) -/

/-- Each of these forms stores the register `reg`. -/
def FormsStore (forms : List StoreForm) (reg : State → Byte) : Prop :=
  ∀ f ∈ forms, ∀ s, exec f.instr s = storeAt f.cycles f.mode (reg s) s

theorem formsStore_sta (z : Byte) (addr : Word) : FormsStore (staForms z addr) State.a := by
  simp only [FormsStore, staForms, List.forall_mem_cons]
  exact ⟨exec_staZp z, exec_staZpx z, exec_staAbs addr, exec_staAbx addr, exec_staAby addr, exec_staIzx z, exec_staIzy z,
    List.forall_mem_nil _⟩

theorem formsStore_stx (z : Byte) (addr : Word) : FormsStore (stxForms z addr) State.x := by
  simp only [FormsStore, stxForms, List.forall_mem_cons]
  exact ⟨exec_stxZp z, exec_stxZpy z, exec_stxAbs addr, List.forall_mem_nil _⟩

theorem formsStore_sty (z : Byte) (addr : Word) : FormsStore (styForms z addr) State.y := by
  simp only [FormsStore, styForms, List.forall_mem_cons]
  exact ⟨exec_styZp z, exec_styZpx z, exec_styAbs addr, List.forall_mem_nil _⟩

theorem exec_of_mem_storeForms {z : Byte} {addr : Word} {f : StoreForm} (hf : f ∈ storeForms z addr) :
    ∃ reg : State → Byte, ∀ s, exec f.instr s = storeAt f.cycles f.mode (reg s) s := by
  simp only [storeForms, List.mem_append, or_assoc] at hf
  rcases hf with h | h | h
  · exact ⟨State.a, formsStore_sta z addr f h⟩
  · exact ⟨State.x, formsStore_stx z addr f h⟩
  · exact ⟨State.y, formsStore_sty z addr f h⟩

theorem storeAt_eq (n : Nat) (m : MemMode) (v : Byte) (s : State) :
    storeAt n m v s = done n (memWrite (locate m s).ea v s) := by
  simp only [storeAt, locate_state]

/-- Settles O57: a store-type form is one bus write at its effective address. -/
theorem storeInstructionsFrame : Obligations.StoreInstructionsFrame := by
  intro s t z addr f hf h
  obtain ⟨reg, hrun⟩ := exec_of_mem_storeForms hf
  rw [hrun, storeAt_eq] at h
  obtain rfl := Host.Outcome.next.inj h
  refine ⟨?_, ?_⟩
  · rw [memWrite_frame]
    exact ⟨rfl, rfl, rfl, rfl, rfl, rfl, rfl, rfl, rfl, rfl, rfl, rfl, rfl⟩
  · rintro a rfl
    exact ⟨fun b hb => peek_memWrite_other (cellOf_ne_of_canon_ne hb) _ s, fun h5 h6 => memWrite_w_of_ne h5 h6 _ s⟩

end Sys2Proof.Proofs

namespace Sys2Proof.Proofs
open Sys2Proof Sys2Proof.Machine Sys2Proof.Claims

/-! ## The fetch of an instruction (R71, R92) -/

/-- Of the addresses of the longest instruction at most one is the status register. -/
theorem canon_ne_status_of_earlier {pc : Word} {j k : Nat} (hjk : j < k) (hk : k < 3)
    (hj : canon (pc + BitVec.ofNat 16 j) = 0x2002) : canon (pc + BitVec.ofNat 16 k) ≠ 0x2002 := fun h => by
  obtain ⟨-, -, hjmod⟩ := (cellOf_eq_ppuRegister_iff _ (by decide)).1 ((canon_eq_status_iff _).1 hj)
  obtain ⟨-, -, hkmod⟩ := (cellOf_eq_ppuRegister_iff _ (by decide)).1 ((canon_eq_status_iff _).1 h)
  simp only [BitVec.toNat_add, BitVec.toNat_ofNat] at hjmod hkmod
  omega

/-- The state after the fetch of `n` bytes, at most one of which is the status register. -/
def fetched (n : Nat) (s : State) : State :=
  { (if ∃ k < n, canon (s.pc + BitVec.ofNat 16 k) = 0x2002 then statusReadEffects s else s) with
    pc := s.pc + BitVec.ofNat 16 n, cycleCount := 0 }

theorem fetched_of_none {n : Nat} {s : State} (h : ∀ k < n, canon (s.pc + BitVec.ofNat 16 k) ≠ 0x2002) :
    fetched n s = { s with pc := s.pc + BitVec.ofNat 16 n, cycleCount := 0 } := by
  rw [fetched, if_neg (fun ⟨k, hk, e⟩ => h k hk e)]

theorem fetched_of_status {n : Nat} {s : State} (h : ∃ k < n, canon (s.pc + BitVec.ofNat 16 k) = 0x2002) :
    fetched n s = { statusReadEffects s with pc := s.pc + BitVec.ofNat 16 n, cycleCount := 0 } := by
  rw [fetched, if_pos h]

theorem add_ofNat_zero (w : Word) : w + BitVec.ofNat 16 0 = w := BitVec.add_zero w

theorem fetched_zero (s : State) : fetched 0 s = s.withCycles 0 := by
  rw [fetched_of_none (fun k hk => absurd hk k.not_lt_zero), add_ofNat_zero]
  rfl

theorem fetched_pc (n : Nat) (s : State) : (fetched n s).pc = s.pc + BitVec.ofNat 16 n := rfl

/-- The next byte of the fetch is the byte stored before it, since a status read changes its own byte only. -/
theorem fetchByte_fetched {n : Nat} (hn : n < 3) (s : State) :
    fetchByte (fetched n s) = (peek s (s.pc + BitVec.ofNat 16 n), fetched (n + 1) s) := by
  have hpc : s.pc + BitVec.ofNat 16 n + 1 = s.pc + BitVec.ofNat 16 (n + 1) := by
    rw [BitVec.ofNat_add, ← BitVec.add_assoc]
    rfl
  rw [fetchByte, fetched_pc, hpc, memRead_fst, memRead_snd]
  by_cases hbefore : ∃ k < n, canon (s.pc + BitVec.ofNat 16 k) = 0x2002
  · obtain ⟨k, hk, hstatus⟩ := hbefore
    have hne := canon_ne_status_of_earlier hk hn hstatus
    rw [if_neg hne, fetched_of_status ⟨k, hk, hstatus⟩, fetched_of_status ⟨k, hk.trans n.lt_succ_self, hstatus⟩]
    exact congrArg (·, _) (peek_statusReadEffects_other (fun e => hne ((canon_eq_status_iff _).2 e)) s)
  · have hnone : ∀ k < n, canon (s.pc + BitVec.ofNat 16 k) ≠ 0x2002 := fun k hk e => hbefore ⟨k, hk, e⟩
    rw [fetched_of_none hnone]
    by_cases hnow : canon (s.pc + BitVec.ofNat 16 n) = 0x2002
    · rw [if_pos hnow, fetched_of_status ⟨n, n.lt_succ_self, hnow⟩]
      rfl
    · rw [if_neg hnow, fetched_of_none]
      · rfl
      · intro k hk
        obtain hk | rfl := Nat.lt_succ_iff_lt_or_eq.1 hk
        · exact hnone k hk
        · exact hnow

/-- The fetch of the operand bytes builds what the decoder builds from the bytes behind `pc`. -/
theorem fetchOperands_fetched {r : Row} (h : FormatRow r) (s : State) : fetchOperands r (fetched 1 s) =
    (r.build (peek s (s.pc + 1)) (peek s (s.pc + 2)), fetched (r.operands + 1) s) := by
  have h1 : fetchByte (fetched 1 s) = (peek s (s.pc + 1), fetched 2 s) := fetchByte_fetched (by decide) s
  have h2 : fetchByte (fetched 2 s) = (peek s (s.pc + 2), fetched 3 s) := fetchByte_fetched (by decide) s
  cases h with
  | f1 | fs => rfl
  | f2 => simp only [fetchOperands, f2, h1]
  | f3 => simp only [fetchOperands, f3, h1, h2]

theorem FormatRow.operands_succ {r : Row} (h : FormatRow r) : r.operands + 1 = if r.cls = .skip then 1 else r.length := by
  cases h <;> rfl

theorem fetchLength_of_encode {i : Instr} {op : Byte} {bs : List Byte} (h : encode i = op :: bs) :
    fetchLength i = if classify op = .skip then 1 else bs.length + 1 := by
  rw [fetchLength, h]

/-- The bytes the fetch reads: the opcode and the operand bytes of the row (R92). -/
theorem fetchLength_build {op : Byte} {r : Row} (hrow : lookup op = some r) (b0 b1 : Byte) :
    fetchLength (r.build b0 b1) = r.operands + 1 := by
  have hformat := formatRow_of_lookup hrow
  obtain ⟨hhead, hlength⟩ := hformat.head_length_encode b0 b1
  obtain ⟨bs, hbytes⟩ := List.head?_eq_some_iff.1 hhead
  rw [fetchLength_of_encode hbytes, ← List.length_cons, ← hbytes, hlength, hformat.operands_succ, opcode_of_lookup hrow,
    classify_of_lookup hrow]

theorem fetchInstr_of_decode {s : State} {i : Instr} {rest : List Byte}
    (h : decode [peek s s.pc, peek s (s.pc + 1), peek s (s.pc + 2)] = .ok (i, rest)) :
    fetchInstr (s.withCycles 0) = (.ok i, fetched (fetchLength i) s) := by
  obtain ⟨r, hrow, -, rfl, -⟩ := lookup_of_decode h
  have hop : fetchByte (s.withCycles 0) = (peek s s.pc, fetched 1 s) := by
    rw [← fetched_zero, fetchByte_fetched (by decide), add_ofNat_zero]
  rw [fetchLength_build hrow, fetchInstr, hop]
  simp only [hrow]
  rw [fetchOperands_fetched (formatRow_of_lookup hrow)]
  rfl

/-- A step that fetches an instruction runs it. -/
theorem cpuStep_of_fetch {s u : State} {i : Instr} (hfault : s.fault = none) (hnmi : s.nmiPending = false)
    (hfetch : fetchInstr (s.withCycles 0) = (.ok i, u)) : cpuStep s = exec i u := by
  simp [cpuStep, hfault, hnmi, hfetch]

/-- Settles O5: the fetch ends in `fetched`, and the instruction it built runs from there. -/
theorem stepRunsTheDecodedInstruction : Obligations.StepRunsTheDecodedInstruction := by
  intro s i rest hfault hnmi hdecode
  have hstep := cpuStep_of_fetch hfault hnmi (fetchInstr_of_decode hdecode)
  obtain ⟨t, hexec⟩ := exec_answers i (fetched (fetchLength i) s)
  refine ⟨fetched (fetchLength i) s, t, hexec, ?_, fetched_of_none, fetched_of_status⟩
  rw [step, systemStep, hstep, hexec]

end Sys2Proof.Proofs

namespace Sys2Proof.Proofs
open Sys2Proof Sys2Proof.Machine Sys2Proof.Claims

/-! ## The bytes of the forms -/

/-- The bytes the opcode map gives a read-type form are the encoder's (R89). -/
theorem encode_of_mem_readForms (v z : Byte) (addr : Word) : ∀ f ∈ readForms v z addr, encode f.instr = f.bytes :=
  List.map_inj_left.1 (rfl : (readForms v z addr).map (fun f => encode f.instr) = (readForms v z addr).map ReadForm.bytes)

/-- The bytes the opcode map gives a store-type form are the encoder's (R89). -/
theorem encode_of_mem_storeForms (z : Byte) (addr : Word) : ∀ f ∈ storeForms z addr, encode f.instr = f.bytes :=
  List.map_inj_left.1 (rfl : (storeForms z addr).map (fun f => encode f.instr) = (storeForms z addr).map StoreForm.bytes)

/-! ## Zero and Negative as an effect on the status register (R16, R18) -/

theorem beq_zero_eq_decide_toNat (r : Byte) : (r == 0) = decide (r.toNat = 0) :=
  Bool.decide_congr BitVec.toNat_inj.symm

theorem getLsbD_seven_eq_decide_toNat (r : Byte) : r.getLsbD 7 = decide (r.toNat ≥ 128) :=
  r.msb_eq_getLsbD_last.symm.trans r.msb_eq_decide

/-- Writing Zero and Negative from a result adds just these two to the flags an effect writes (R18). -/
theorem holds_setZN {e : FlagEffect} {p q : Byte} (h : e.Holds p q) (r : Byte) :
    ({ e with z := (zn r).z, n := (zn r).n } : FlagEffect).Holds p (setZN r q) := by
  obtain ⟨hc, -, hi, hd, h4, h5, hv, -⟩ := h
  have bit := getLsbD_setZN r q
  exact ⟨(bit 0 (by decide)).trans hc, (bit 1 (by decide)).trans (beq_zero_eq_decide_toNat r), (bit 2 (by decide)).trans hi,
    (bit 3 (by decide)).trans hd, (bit 4 (by decide)).trans h4, (bit 5 (by decide)).trans h5, (bit 6 (by decide)).trans hv,
    (bit 7 (by decide)).trans (getLsbD_seven_eq_decide_toNat r)⟩

theorem holds_none (p : Byte) : ({} : FlagEffect).Holds p p := ⟨rfl, rfl, rfl, rfl, rfl, rfl, rfl, rfl⟩

theorem holds_zn (r p : Byte) : (zn r).Holds p (setZN r p) := holds_setZN (holds_none p) r

/-! ## Loads (R100 to R102) -/

theorem readSource_state_p (src : Source) (s : State) : (readSource src s).state.p = s.p := by
  obtain ⟨-, -, -, -, -, hp⟩ := readSource_registers src s
  exact hp

/-- A read-type instruction answers what `g` makes of the operand, for any effect `g` has on the status before the read. `Runs` does
not look at the status of the state it names, so this one stands for every state that differs from it there only. -/
theorem runs_withSource {i : Instr} {n : Nat} {src : Source} {g : Byte → State → State} {e : FlagEffect} {s : State} {o : Operand}
    (hrun : exec i s = withSource n src g s) (ho : o = readSource src s) (he : e.Holds s.p (g o.value o.state).p) :
    Runs i s ((g o.value o.state).withCycles (n + o.crossed.toNat)) e :=
  ⟨_, he, ho ▸ hrun⟩

/-- A use of the operand that sets Z and N from it is a load. -/
theorem runs_load {forms : List ReadForm} {g : Byte → State → State} (hforms : FormsRead forms g)
    (hflags : ∀ v s, (g v s).p = setZN v s.p) {f : ReadForm} (hf : f ∈ forms) {s : State} {o : Operand}
    (ho : o = readSource f.source s) :
    Runs f.instr s ((g o.value o.state).withCycles (f.base + o.crossed.toNat)) (zn o.value) := by
  refine runs_withSource (hforms f hf s) ho ?_
  rw [hflags, ho, readSource_state_p]
  exact holds_zn _ _

/-- Settles O33: every form hands its operand to the register write of its mnemonic, which sets the register and Z and N. -/
theorem loadsWriteRegister : Obligations.LoadsWriteRegister := by
  intro s v z addr
  have bytes := encode_of_mem_readForms v z addr
  simp only [readForms, List.forall_mem_append, and_assoc] at bytes
  obtain ⟨hlda, hldx, hldy, -⟩ := bytes
  exact ⟨fun f hf => ⟨hlda f hf, fun _ ho => runs_load (formsRead_lda v z addr) (fun _ _ => rfl) hf ho⟩,
    fun f hf => ⟨hldx f hf, fun _ ho => runs_load (formsRead_ldx v z addr) (fun _ _ => rfl) hf ho⟩,
    fun f hf => ⟨hldy f hf, fun _ ho => runs_load (formsRead_ldy v z addr) (fun _ _ => rfl) hf ho⟩⟩

/-! ## Stores (R103 to R105) -/

/-- A store form is one bus write of its register, the cost fixed (R86, R88). -/
theorem exec_store {forms : List StoreForm} {reg : State → Byte} (hforms : FormsStore forms reg) {f : StoreForm} (hf : f ∈ forms)
    (s : State) : exec f.instr s = .next { memWrite (locate f.mode s).ea (reg s) s with cycleCount := f.cycles } :=
  (hforms f hf s).trans (storeAt_eq f.cycles f.mode (reg s) s)

/-- Settles O40: every form is the one store operation on the register of its mnemonic. -/
theorem storesWriteRegisterToMemory : Obligations.StoresWriteRegisterToMemory := by
  intro s z addr
  have bytes := encode_of_mem_storeForms z addr
  simp only [storeForms, List.forall_mem_append, and_assoc] at bytes
  obtain ⟨hsta, hstx, hsty⟩ := bytes
  exact ⟨fun f hf => ⟨hsta f hf, exec_store (formsStore_sta z addr) hf s⟩,
    fun f hf => ⟨hstx f hf, exec_store (formsStore_stx z addr) hf s⟩,
    fun f hf => ⟨hsty f hf, exec_store (formsStore_sty z addr) hf s⟩⟩

end Sys2Proof.Proofs

namespace Sys2Proof.Proofs
open Sys2Proof Sys2Proof.Machine Sys2Proof.Claims

/-! ## Transfers (R110 to R115) -/

/-- An instruction whose answer has the status it started from, but for Z and N set from `v`, has the effect `zn v`. `Runs` does not
look at the status of the state it names, so this one stands for every state that differs from it there only. -/
theorem runs_zn_of_done {i : Instr} {n : Nat} {s t : State} {v : Byte} (hrun : exec i s = done n t) (hflags : t.p = setZN v s.p) :
    Runs i s (t.withCycles n) (zn v) :=
  ⟨t.p, hflags ▸ holds_zn v s.p, hrun⟩

/-- Settles O41: TAX to TSX each hand a register to the write of another, which sets Z and N from it; TXS only moves `x` to `sp`. -/
theorem transfersCopyRegister : Obligations.TransfersCopyRegister := fun s =>
  ⟨⟨rfl, runs_zn_of_done (exec_tax s) rfl⟩, ⟨rfl, runs_zn_of_done (exec_tay s) rfl⟩, ⟨rfl, runs_zn_of_done (exec_txa s) rfl⟩,
    ⟨rfl, runs_zn_of_done (exec_tya s) rfl⟩, ⟨rfl, runs_zn_of_done (exec_tsx s) rfl⟩, ⟨rfl, exec_txs s⟩⟩

end Sys2Proof.Proofs

namespace Sys2Proof.Proofs
open Sys2Proof Sys2Proof.Machine Sys2Proof.Claims

/-! ## The stack instructions (R120 to R125) -/

/-- A push as one bus write at the top of the stack, then the decrement (R120). -/
theorem push_eq_memWrite_stackTop (v : Byte) (s : State) :
    push v s = { memWrite (stackTop s 0) v s with sp := s.sp - 1 } := by
  rw [stackTop_zero]
  rfl

/-- A pull increments, then gives the byte at the new top; no read in the stack page has a side effect (R121). -/
theorem pull_eq_peek_stackPull (s : State) : pull s = (peek s (stackPull s 1), { s with sp := s.sp + 1 }) :=
  memRead_stackAddr (s.sp + 1) (s.withSp (s.sp + 1))

/-- An instruction that pushes one byte and does nothing else. -/
theorem exec_of_done_push {i : Instr} {n : Nat} {v : Byte} {s : State} (hrun : exec i s = done n (push v s)) :
    exec i s = .next { memWrite (stackTop s 0) v s with sp := s.sp - 1, cycleCount := n } := by
  rw [hrun, push_eq_memWrite_stackTop]
  rfl

/-- PLA: the pulled byte goes through the accumulator write, which sets Z and N from it (R124). -/
theorem exec_pla_eq_writeA (s : State) :
    exec .pla s = done 4 (writeA (peek s (stackPull s 1)) { s with sp := s.sp + 1 }) := by
  rw [exec_pla, pull_eq_peek_stackPull]

/-- PLP: the pulled byte becomes the status, in normal form (R125). -/
theorem exec_plp_eq_statusPulled (s : State) :
    exec .plp s = .next { s with p := statusPulled (peek s (stackPull s 1)), sp := s.sp + 1, cycleCount := 4 } := by
  rw [exec_plp, pull_eq_peek_stackPull]
  rfl

/-- Settles O42: PHA and PHP are one push, of `a` and of the status with bits 5 and 4 set; PLA and PLP are one pull, into `a` and
into the status. -/
theorem stackInstructionsPushAndPull : Obligations.StackInstructionsPushAndPull := fun s =>
  ⟨⟨rfl, exec_of_done_push (exec_pha s)⟩, ⟨rfl, exec_of_done_push (exec_php s)⟩, ⟨rfl, runs_zn_of_done (exec_pla_eq_writeA s) rfl⟩,
    ⟨rfl, exec_plp_eq_statusPulled s⟩⟩

end Sys2Proof.Proofs

namespace Sys2Proof.Proofs
open Sys2Proof Sys2Proof.Machine Sys2Proof.Claims

/-! ## AND, ORA, EOR (R130 to R132) -/

theorem readSource_state_a (src : Source) (s : State) : (readSource src s).state.a = s.a := by
  obtain ⟨ha, -⟩ := readSource_registers src s
  exact ha

/-- A form that hands `op s.a m` to the accumulator write puts into `a` the byte whose bits are those of the accumulator before the
read combined with the operand's by `b`, and sets Z and N from it. -/
theorem runs_bitwise {forms : List ReadForm} {op : Byte → Byte → Byte} {b : Bool → Bool → Bool}
    (hforms : FormsRead forms (fun m s => writeA (op s.a m) s))
    (hop : ∀ {x y : Byte} {k : Nat}, (op x y).getLsbD k = b (x.getLsbD k) (y.getLsbD k))
    {f : ReadForm} (hf : f ∈ forms) {s : State} {o : Operand} {r : Byte} (ho : o = readSource f.source s)
    (hbits : ∀ k < 8, r.getLsbD k = b (s.a.getLsbD k) (o.value.getLsbD k)) :
    Runs f.instr s { o.state with a := r, cycleCount := f.base + o.crossed.toNat } (zn r) := by
  have ha : o.state.a = s.a := ho ▸ readSource_state_a f.source s
  have hp : o.state.p = s.p := ho ▸ readSource_state_p f.source s
  have hr : r = op o.state.a o.value := BitVec.eq_of_getLsbD_eq fun k hk => by rw [hbits k hk, ha, hop]
  subst hr
  exact runs_withSource (hforms f hf s) ho (hp ▸ holds_zn _ _)

/-! ## BIT (R133) -/

theorem getLsbD_bitFlags (a m p : Byte) (k : Nat) (hk : k < 8) : (bitFlags a m p).getLsbD k =
    if k = 6 then m.getLsbD 6 else if k = 7 then m.getLsbD 7 else if k = 1 then a &&& m == 0 else p.getLsbD k := by
  rw [bitFlags, getLsbD_setV _ _ _ hk, getLsbD_setN _ _ _ hk, getLsbD_setZ _ _ _ hk]

theorem holds_bitFlags (a m p : Byte) :
    ({ z := some (decide (a &&& m = 0)), n := some (m.getLsbD 7), v := some (m.getLsbD 6) } : FlagEffect).Holds p
      (bitFlags a m p) := by
  have bit := getLsbD_bitFlags a m p
  exact ⟨bit 0 (by decide), bit 1 (by decide), bit 2 (by decide), bit 3 (by decide), bit 4 (by decide), bit 5 (by decide),
    bit 6 (by decide), bit 7 (by decide)⟩

/-- A BIT form tests the operand against the accumulator before the read and writes nothing but the status. -/
theorem runs_bit {z : Byte} {addr : Word} {f : ReadForm} (hf : f ∈ bitForms z addr) {s : State} {o : Operand}
    (ho : o = readSource f.source s) :
    Runs f.instr s { o.state with cycleCount := f.base + o.crossed.toNat }
      { z := some (decide (s.a &&& o.value = 0)), n := some (o.value.getLsbD 7), v := some (o.value.getLsbD 6) } := by
  have ha : o.state.a = s.a := ho ▸ readSource_state_a f.source s
  have hp : o.state.p = s.p := ho ▸ readSource_state_p f.source s
  exact runs_withSource (formsRead_bit z addr f hf s) ho (ha ▸ hp ▸ holds_bitFlags _ _ _)

/-- Settles O34: AND, ORA and EOR hand the bitwise combination of `a` and the operand to the accumulator write; BIT only writes the
status. -/
theorem logicCombinesWithAccumulator : Obligations.LogicCombinesWithAccumulator := by
  intro s v z addr
  have bytes := encode_of_mem_readForms v z addr
  simp only [readForms, List.forall_mem_append, and_assoc] at bytes
  obtain ⟨-, -, -, hand, hora, heor, hbit, -⟩ := bytes
  exact ⟨fun f hf => ⟨hand f hf, fun _ _ => runs_bitwise (formsRead_and v z addr) BitVec.getLsbD_and hf⟩,
    fun f hf => ⟨hora f hf, fun _ _ => runs_bitwise (formsRead_ora v z addr) BitVec.getLsbD_or hf⟩,
    fun f hf => ⟨heor f hf, fun _ _ => runs_bitwise (formsRead_eor v z addr) BitVec.getLsbD_xor hf⟩,
    fun f hf => ⟨hbit f hf, fun _ => runs_bit hf⟩⟩

end Sys2Proof.Proofs

namespace Sys2Proof.Proofs
open Sys2Proof Sys2Proof.Machine Sys2Proof.Claims

/-! ## Carry, Overflow and Decimal as effects on the status register (R16) -/

/-- Writing Carry adds just it to the flags an effect writes. -/
theorem holds_setC {e : FlagEffect} {p q : Byte} (h : e.Holds p q) (c : Bool) :
    ({ e with c := some c } : FlagEffect).Holds p (setC c q) := by
  obtain ⟨-, hz, hi, hd, h4, h5, hv, hn⟩ := h
  have bit := getLsbD_setC c q
  exact ⟨bit 0 (by decide), (bit 1 (by decide)).trans hz, (bit 2 (by decide)).trans hi, (bit 3 (by decide)).trans hd,
    (bit 4 (by decide)).trans h4, (bit 5 (by decide)).trans h5, (bit 6 (by decide)).trans hv, (bit 7 (by decide)).trans hn⟩

/-- Writing Overflow adds just it to the flags an effect writes. -/
theorem holds_setV {e : FlagEffect} {p q : Byte} (h : e.Holds p q) (v : Bool) :
    ({ e with v := some v } : FlagEffect).Holds p (setV v q) := by
  obtain ⟨hc, hz, hi, hd, h4, h5, -, hn⟩ := h
  have bit := getLsbD_setV v q
  exact ⟨(bit 0 (by decide)).trans hc, (bit 1 (by decide)).trans hz, (bit 2 (by decide)).trans hi, (bit 3 (by decide)).trans hd,
    (bit 4 (by decide)).trans h4, (bit 5 (by decide)).trans h5, bit 6 (by decide), (bit 7 (by decide)).trans hn⟩

/-- Writing Decimal adds just it to the flags an effect writes. -/
theorem holds_setD {e : FlagEffect} {p q : Byte} (h : e.Holds p q) (d : Bool) :
    ({ e with d := some d } : FlagEffect).Holds p (setD d q) := by
  obtain ⟨hc, hz, hi, -, h4, h5, hv, hn⟩ := h
  have bit := getLsbD_setD d q
  exact ⟨(bit 0 (by decide)).trans hc, (bit 1 (by decide)).trans hz, (bit 2 (by decide)).trans hi, bit 3 (by decide),
    (bit 4 (by decide)).trans h4, (bit 5 (by decide)).trans h5, (bit 6 (by decide)).trans hv, (bit 7 (by decide)).trans hn⟩

theorem holds_czn (c : Bool) (r p : Byte) : (czn c r).Holds p (setZN r (setC c p)) :=
  holds_setZN (holds_setC (holds_none p) c) r

theorem holds_czn_v (c v : Bool) (r p : Byte) :
    ({ czn c r with v := some v } : FlagEffect).Holds p (setZN r (setV v (setC c p))) :=
  holds_setZN (holds_setV (holds_setC (holds_none p) c) v) r

/-! ## The sum, the difference and their flags (R141, R142, R144 to R148) -/

/-- A byte computed from an integer is the integer modulo 256. -/
theorem ofInt_eq_ofNat_emod (t : Int) : BitVec.ofInt 8 t = BitVec.ofNat 8 (t % 256).toNat :=
  BitVec.eq_of_toNat_eq (by
    rw [BitVec.toNat_ofInt, BitVec.toNat_ofNat]
    omega)

theorem adc_r (a m p : Byte) : (adc a m p).r = BitVec.ofNat 8 ((a.toNat + m.toNat + (flagC p).toNat) % 256) :=
  BitVec.eq_of_toNat_eq (Nat.mod_mod _ 256).symm

/-- Overflow of a sum: the operands share a sign the result does not have (R142). -/
theorem overflow_add (a m r : Byte) : (~~~(a ^^^ m) &&& (a ^^^ r)).getLsbD 7 =
    decide (a.getLsbD 7 = m.getLsbD 7 ∧ r.getLsbD 7 ≠ a.getLsbD 7) := by
  simp only [BitVec.getLsbD_and, BitVec.getLsbD_not, BitVec.getLsbD_xor]
  cases a.getLsbD 7 <;> cases m.getLsbD 7 <;> cases r.getLsbD 7 <;> rfl

/-- Overflow of a difference: the operands differ in sign and the result's is not the minuend's (R142). -/
theorem overflow_sub (a m r : Byte) : ((a ^^^ m) &&& (a ^^^ r)).getLsbD 7 =
    decide (a.getLsbD 7 ≠ m.getLsbD 7 ∧ r.getLsbD 7 ≠ a.getLsbD 7) := by
  simp only [BitVec.getLsbD_and, BitVec.getLsbD_xor]
  cases a.getLsbD 7 <;> cases m.getLsbD 7 <;> cases r.getLsbD 7 <;> rfl

/-- The flags of the sum (R144). -/
theorem holds_adc (a m p : Byte) :
    ({ czn (decide (255 < a.toNat + m.toNat + (flagC p).toNat)) (adc a m p).r with
       v := some (decide (a.getLsbD 7 = m.getLsbD 7 ∧ (adc a m p).r.getLsbD 7 ≠ a.getLsbD 7)) } : FlagEffect).Holds p
      (adc a m p).p := by
  rw [← overflow_add]
  exact holds_czn_v _ _ _ p

theorem sbc_r (a m p : Byte) :
    (sbc a m p).r = BitVec.ofNat 8 ((a.toNat - m.toNat - (1 - (flagC p).toNat) : Int) % 256).toNat :=
  ofInt_eq_ofNat_emod _

/-- The flags of the difference, Carry being the complement of the borrow (R145). -/
theorem holds_sbc (a m p : Byte) :
    ({ czn (decide (0 ≤ (a.toNat - m.toNat - (1 - (flagC p).toNat) : Int))) (sbc a m p).r with
       v := some (decide (a.getLsbD 7 ≠ m.getLsbD 7 ∧ (sbc a m p).r.getLsbD 7 ≠ a.getLsbD 7)) } : FlagEffect).Holds p
      (sbc a m p).p := by
  rw [← overflow_sub]
  exact holds_czn_v _ _ _ p

/-- The flags of a comparison: those of a difference without borrow in, but for Overflow (R146 to R148). -/
theorem holds_compareFlags (reg m p : Byte) :
    (czn (decide (0 ≤ (reg.toNat - m.toNat : Int))) (BitVec.ofNat 8 ((reg.toNat - m.toNat : Int) % 256).toNat)).Holds p
      (compareFlags reg m p) := by
  rw [← ofInt_eq_ofNat_emod]
  exact holds_czn _ _ p

/-! ## ADC and SBC (R144, R145) -/

/-- The result and the status of `f`, on the accumulator and the operand, go into `a` and `p`. -/
def writeAlu (f : Byte → Byte → Byte → Alu) (m : Byte) (s : State) : State :=
  (s.withA (f s.a m s.p).r).withP (f s.a m s.p).p

theorem formsRead_adc_writeAlu (v z : Byte) (addr : Word) : FormsRead (adcForms v z addr) (writeAlu adc) :=
  formsRead_adc v z addr

theorem formsRead_sbc_writeAlu (v z : Byte) (addr : Word) : FormsRead (sbcForms v z addr) (writeAlu sbc) :=
  formsRead_sbc v z addr

/-- A form that writes `f` answers the result and the flags `f` has for the accumulator and the status before the read. -/
theorem runs_writeAlu {forms : List ReadForm} {f : Byte → Byte → Byte → Alu} (hforms : FormsRead forms (writeAlu f))
    {form : ReadForm} (hmem : form ∈ forms) {s : State} {o : Operand} {e : FlagEffect} (ho : o = readSource form.source s)
    (he : e.Holds s.p (f s.a o.value s.p).p) :
    Runs form.instr s { o.state with a := (f s.a o.value s.p).r, cycleCount := form.base + o.crossed.toNat } e := by
  have ha : o.state.a = s.a := ho ▸ readSource_state_a form.source s
  have hp : o.state.p = s.p := ho ▸ readSource_state_p form.source s
  rw [← ha, ← hp] at he ⊢
  exact runs_withSource (hforms form hmem s) ho (hp ▸ he)

/-- Settles O35: every form writes the sum of the accumulator and its operand, with the sum's flags. -/
theorem adcAddsWithCarry : Obligations.AdcAddsWithCarry := by
  intro s v z addr f hf
  have bytes := encode_of_mem_readForms v z addr
  simp only [readForms, List.forall_mem_append, and_assoc] at bytes
  obtain ⟨-, -, -, -, -, -, -, hadc, -⟩ := bytes
  refine ⟨hadc f hf, fun o t r ho ht hr => ?_⟩
  obtain rfl : r = (adc s.a o.value s.p).r := by rw [hr, ht, adc_r, flagC]
  rw [ht]
  exact runs_writeAlu (formsRead_adc_writeAlu v z addr) hf ho (holds_adc s.a o.value s.p)

/-- Settles O36: every form writes the difference of the accumulator and its operand, with the difference's flags. -/
theorem sbcSubtractsWithBorrow : Obligations.SbcSubtractsWithBorrow := by
  intro s v z addr f hf
  have bytes := encode_of_mem_readForms v z addr
  simp only [readForms, List.forall_mem_append, and_assoc] at bytes
  obtain ⟨-, -, -, -, -, -, -, -, hsbc, -⟩ := bytes
  refine ⟨hsbc f hf, fun o t r ho ht hr => ?_⟩
  obtain rfl : r = (sbc s.a o.value s.p).r := by rw [hr, ht, sbc_r, flagC]
  rw [ht]
  exact runs_writeAlu (formsRead_sbc_writeAlu v z addr) hf ho (holds_sbc s.a o.value s.p)

/-! ## SBC as ADC of the complement (R145) -/

theorem xor_ones_eq_not (m : Byte) : m ^^^ 0xFF = ~~~m := BitVec.xor_allOnes

/-- The difference is the sum with the complement, less 256. -/
theorem sbc_eq_adc_complement (a m p : Byte) : sbc a m p = adc a (m ^^^ 0xFF) p := by
  have hm := m.isLt
  have hcarryIn : (flagC p).toNat ≤ 1 := Bool.toNat_le _
  have hsum : (a.toNat - m.toNat - (1 - (flagC p).toNat) : Int) = (a.toNat + (~~~m).toNat + (flagC p).toNat : Nat) - 256 := by
    rw [BitVec.toNat_not]
    omega
  have hr : BitVec.ofInt 8 (a.toNat - m.toNat - (1 - (flagC p).toNat)) =
      BitVec.ofNat 8 (a.toNat + (~~~m).toNat + (flagC p).toNat) := by
    apply BitVec.eq_of_toNat_eq
    rw [BitVec.toNat_ofInt, BitVec.toNat_ofNat, hsum]
    omega
  have hcarry : decide ((a.toNat - m.toNat - (1 - (flagC p).toNat) : Int) ≥ 0) =
      decide (a.toNat + (~~~m).toNat + (flagC p).toNat > 0xFF) := Bool.decide_congr (by omega)
  have hsigns : ~~~(a ^^^ ~~~m) = a ^^^ m := by rw [BitVec.not_xor_right, BitVec.not_not]
  rw [xor_ones_eq_not]
  simp only [sbc, adc, hr, hcarry, hsigns]

/-- Settles O37: both read the immediate byte in 2 cycles, and the difference is the sum with the complement. -/
theorem sbcIsAdcOfComplement : Obligations.SbcIsAdcOfComplement := by
  intro v s
  have hwrite : sbcA v s = adcA (v ^^^ 0xFF) s :=
    congrArg (fun t : Alu => (s.withA t.r).withP t.p) (sbc_eq_adc_complement s.a v s.p)
  exact congrArg (done 2) hwrite

/-! ## CMP, CPX, CPY (R146 to R148) -/

/-- A form that compares the register `reg`, which no read changes, with its operand only writes the flags of the difference. -/
theorem runs_compare {forms : List ReadForm} {reg : State → Byte}
    (hforms : FormsRead forms (fun m s => s.withP (compareFlags (reg s) m s.p)))
    (hreg : ∀ src s, reg (readSource src s).state = reg s) {f : ReadForm} (hf : f ∈ forms) {s : State} {o : Operand} {t : Int}
    (ho : o = readSource f.source s) (ht : t = (reg s).toNat - o.value.toNat) :
    Runs f.instr s { o.state with cycleCount := f.base + o.crossed.toNat }
      (czn (decide (0 ≤ t)) (BitVec.ofNat 8 (t % 256).toNat)) := by
  have hr : reg o.state = reg s := ho ▸ hreg f.source s
  have hp : o.state.p = s.p := ho ▸ readSource_state_p f.source s
  subst ht
  exact runs_withSource (hforms f hf s) ho (hr ▸ hp ▸ holds_compareFlags _ _ _)

theorem readSource_state_x (src : Source) (s : State) : (readSource src s).state.x = s.x := by
  obtain ⟨-, hx, -⟩ := readSource_registers src s
  exact hx

theorem readSource_state_y (src : Source) (s : State) : (readSource src s).state.y = s.y := by
  obtain ⟨-, -, hy, -⟩ := readSource_registers src s
  exact hy

/-- Settles O38: every form compares its operand with the register of its mnemonic. -/
theorem comparesOnlySetFlags : Obligations.ComparesOnlySetFlags := by
  intro s v z addr
  have bytes := encode_of_mem_readForms v z addr
  simp only [readForms, List.forall_mem_append, and_assoc] at bytes
  obtain ⟨-, -, -, -, -, -, -, -, -, hcmp, hcpx, hcpy⟩ := bytes
  exact ⟨fun f hf => ⟨hcmp f hf, fun _ _ => runs_compare (formsRead_cmp v z addr) readSource_state_a hf⟩,
    fun f hf => ⟨hcpx f hf, fun _ _ => runs_compare (formsRead_cpx v z addr) readSource_state_x hf⟩,
    fun f hf => ⟨hcpy f hf, fun _ _ => runs_compare (formsRead_cpy v z addr) readSource_state_y hf⟩⟩

/-! ## The Decimal flag (R143) -/

/-- Writes of different flags commute. -/
theorem setFlag_comm {mask mask' : Byte} (h : mask &&& mask' = 0) (v v' : Bool) (p : Byte) :
    setFlag mask v (setFlag mask' v' p) = setFlag mask' v' (setFlag mask v p) :=
  status_ext fun k hk => by
    have hdisjoint : (mask.getLsbD k && mask'.getLsbD k) = false := by rw [← BitVec.getLsbD_and, h]; exact BitVec.getLsbD_zero
    simp only [getLsbD_setFlag _ _ _ _ hk]
    cases hm : mask.getLsbD k <;> cases hm' : mask'.getLsbD k
    · rfl
    · rfl
    · rfl
    · rw [hm, hm'] at hdisjoint; cases hdisjoint

theorem setC_setD (c d : Bool) (p : Byte) : setC c (setD d p) = setD d (setC c p) := setFlag_comm (by decide) c d p

theorem setV_setD (v d : Bool) (p : Byte) : setV v (setD d p) = setD d (setV v p) := setFlag_comm (by decide) v d p

theorem setZN_setD (r : Byte) (d : Bool) (p : Byte) : setZN r (setD d p) = setD d (setZN r p) := by
  have hz : setZ (r == 0) (setD d p) = setD d (setZ (r == 0) p) := setFlag_comm (by decide) (r == 0) d p
  rw [setZN, hz]
  exact setFlag_comm (by decide) (r.getLsbD 7) d _

theorem flagC_setD (d : Bool) (p : Byte) : flagC (setD d p) = flagC p := getLsbD_setD d p 0 (by decide)

/-- Decimal makes no difference to `f`, which leaves it as it was. -/
def IgnoresD (f : Byte → Byte → Byte → Alu) : Prop :=
  ∀ a m p d, f a m (setD d p) = { f a m p with p := setD d (f a m p).p }

theorem ignoresD_adc : IgnoresD adc := fun a m p d => by
  simp only [adc, flagC_setD, setC_setD, setV_setD, setZN_setD]

theorem ignoresD_sbc : IgnoresD sbc := fun a m p d => by
  simp only [sbc, flagC_setD, setC_setD, setV_setD, setZN_setD]

theorem memRead_withP (addr : Word) (q : Byte) (s : State) :
    memRead addr (s.withP q) = ((memRead addr s).1, (memRead addr s).2.withP q) := by
  unfold memRead
  split <;> rfl

theorem locate_withP (m : MemMode) (q : Byte) (s : State) : locate m (s.withP q) = { locate m s with state := s.withP q } := by
  cases m <;> simp only [locate, indexed, zpPointer_eq] <;> rfl

/-- No operand read looks at the status register. -/
theorem readSource_withP (src : Source) (q : Byte) (s : State) :
    readSource src (s.withP q) = { readSource src s with state := (readSource src s).state.withP q } := by
  cases src with
  | imm v => rfl
  | mem m => simp only [readSource, locate_withP, memRead_withP, locate_state]

theorem writeAlu_setD {f : Byte → Byte → Byte → Alu} (hf : IgnoresD f) (m : Byte) (d : Bool) (s : State) :
    writeAlu f m (s.withP (setD d s.p)) = (writeAlu f m s).withP (setD d (writeAlu f m s).p) := by
  simp only [writeAlu, State.withP_a, State.withP_p, hf s.a m s.p d]
  rfl

/-- A form that writes such an `f` runs alike from two states that differ in Decimal only. -/
theorem exec_setD {forms : List ReadForm} {f : Byte → Byte → Byte → Alu} (hforms : FormsRead forms (writeAlu f)) (hf : IgnoresD f)
    {form : ReadForm} (hmem : form ∈ forms) {s t : State} (h : exec form.instr s = .next t) (d : Bool) :
    exec form.instr (s.withP (setD d s.p)) = .next (t.withP (setD d t.p)) := by
  rw [hforms form hmem] at h ⊢
  obtain rfl := Host.Outcome.next.inj h
  simp only [withSource, readSource_withP, ← readSource_state_p form.source s, writeAlu_setD hf]
  rfl

/-- Settles O39: neither the operand read nor the sum or difference looks at Decimal, and neither writes it. -/
theorem arithmeticIgnoresDecimal : Obligations.ArithmeticIgnoresDecimal := by
  intro s t v z addr d f hf h
  have hrun : exec f.instr (s.withP (setD d s.p)) = .next (t.withP (setD d t.p)) := by
    rcases List.mem_append.1 hf with hadc | hsbc
    · exact exec_setD (formsRead_adc_writeAlu v z addr) ignoresD_adc hadc h d
    · exact exec_setD (formsRead_sbc_writeAlu v z addr) ignoresD_sbc hsbc h d
  exact ⟨setD d s.p, setD d t.p, holds_setD (holds_none s.p) d, holds_setD (holds_none t.p) d, hrun⟩

end Sys2Proof.Proofs

namespace Sys2Proof.Proofs
open Sys2Proof Sys2Proof.Machine Sys2Proof.Claims

/-! ## Read-modify-write instructions on memory (R86) -/

/-- The bytes the opcode map gives a read-modify-write form are the encoder's (R89). -/
theorem encode_of_mem_modifyForms (z : Byte) (addr : Word) : ∀ f ∈ modifyForms z addr, encode f.instr = f.bytes :=
  List.map_inj_left.1 (rfl : (modifyForms z addr).map (fun f => encode f.instr) = (modifyForms z addr).map StoreForm.bytes)

/-- A form that puts its operand through `g` writes the result of `g` back, for any effect `g` has on the status. -/
theorem runs_modify {forms : List StoreForm} {g : Byte → Byte → Alu} (hforms : FormsModify forms g) {f : StoreForm} (hf : f ∈ forms)
    {s : State} {a : Word} {e : FlagEffect} (ha : a = (locate f.mode s).ea) (he : e.Holds s.p (g (peek s a) s.p).p) :
    Runs f.instr s { memWrite a (g (peek s a) s.p).r (memRead a s).2 with cycleCount := f.cycles } e := by
  subst ha
  exact ⟨_, he, (hforms f hf s).trans (modifyAt_eq f.cycles f.mode g s)⟩

/-! ## Increment and decrement (R150 to R155) -/

theorem incr_r (v p : Byte) : (incr v p).r = BitVec.ofNat 8 (v.toNat + 1) :=
  BitVec.eq_of_toNat_eq rfl

/-- Subtracting one is adding 255, modulo 256. -/
theorem decr_r (v p : Byte) : (decr v p).r = BitVec.ofNat 8 (v.toNat + 255) :=
  BitVec.eq_of_toNat_eq (congrArg (· % 256) (Nat.add_comm 255 v.toNat))

theorem holds_incr (v p : Byte) : (zn (incr v p).r).Holds p (incr v p).p := holds_zn (v + 1) p

theorem holds_decr (v p : Byte) : (zn (decr v p).r).Holds p (decr v p).p := holds_zn (v - 1) p

/-- Settles O44: every form is the one read-modify-write operation, on the increment or the decrement. -/
theorem incDecMemoryByOne : Obligations.IncDecMemoryByOne := by
  intro s z addr
  have bytes := encode_of_mem_modifyForms z addr
  simp only [modifyForms, List.forall_mem_append, and_assoc] at bytes
  obtain ⟨hinc, hdec, -⟩ := bytes
  refine ⟨fun f hf => ⟨hinc f hf, fun a r ha hr => ?_⟩, fun f hf => ⟨hdec f hf, fun a r ha hr => ?_⟩⟩
  · obtain rfl : r = (incr (peek s a) s.p).r := hr.trans (incr_r _ _).symm
    exact runs_modify (formsModify_inc z addr) hf ha (holds_incr _ _)
  · obtain rfl : r = (decr (peek s a) s.p).r := hr.trans (decr_r _ _).symm
    exact runs_modify (formsModify_dec z addr) hf ha (holds_decr _ _)

/-- Settles O45: each writes the increment or the decrement of its register back into it, with the flags of the result. -/
theorem incDecRegisterByOne : Obligations.IncDecRegisterByOne := by
  intro s r
  refine ⟨fun hr => ⟨rfl, ?_⟩, fun hr => ⟨rfl, ?_⟩, fun hr => ⟨rfl, ?_⟩, fun hr => ⟨rfl, ?_⟩⟩
  · obtain rfl : r = (incr s.x s.p).r := hr.trans (incr_r _ _).symm
    exact runs_zn_of_done (exec_inx s) rfl
  · obtain rfl : r = (incr s.y s.p).r := hr.trans (incr_r _ _).symm
    exact runs_zn_of_done (exec_iny s) rfl
  · obtain rfl : r = (decr s.x s.p).r := hr.trans (decr_r _ _).symm
    exact runs_zn_of_done (exec_dex s) rfl
  · obtain rfl : r = (decr s.y s.p).r := hr.trans (decr_r _ _).symm
    exact runs_zn_of_done (exec_dey s) rfl

end Sys2Proof.Proofs

namespace Sys2Proof.Proofs
open Sys2Proof Sys2Proof.Machine Sys2Proof.Claims

/-! ## A byte moved by one place through Carry (R160 to R163) -/

/-- Putting a carry into a clear bit is adding the bit's weight. -/
theorem or_carry_eq_ofNat {r : Byte} {k : Nat} (hclear : r.getLsbD k = false) (c : Bool) :
    r ||| (if c then BitVec.twoPow 8 k else 0) = BitVec.ofNat 8 (r.toNat + 2 ^ k * c.toNat) := by
  cases c with
  | false => simp
  | true =>
    have hdisjoint : r &&& BitVec.twoPow 8 k = 0 := by rw [BitVec.and_twoPow, hclear]; rfl
    simp only [if_true, ← BitVec.add_eq_or_of_and_eq_zero _ _ hdisjoint]
    simp [← BitVec.toNat_inj, BitVec.toNat_twoPow]

theorem toNat_shiftLeft_one (v : Byte) : (v <<< 1).toNat = 2 * v.toNat % 256 := by
  rw [BitVec.toNat_shiftLeft, Nat.shiftLeft_eq, Nat.mul_comm]

theorem toNat_ushiftRight_one (v : Byte) : (v >>> 1).toNat = v.toNat / 2 := by
  rw [BitVec.toNat_ushiftRight, Nat.shiftRight_eq_div_pow]

theorem asl_r (v p : Byte) : (asl v p).r = BitVec.ofNat 8 (2 * v.toNat) :=
  BitVec.eq_of_toNat_eq (toNat_shiftLeft_one v)

theorem lsr_r (v p : Byte) : (lsr v p).r = BitVec.ofNat 8 (v.toNat / 2) := by
  rw [← toNat_ushiftRight_one, BitVec.ofNat_toNat]
  rfl

/-- The old Carry enters the bit the shift has cleared. -/
theorem rol_r (v p : Byte) : (rol v p).r = BitVec.ofNat 8 (2 * v.toNat + (flagC p).toNat) := by
  have hclear : (v <<< 1).getLsbD 0 = false := by simp
  calc (rol v p).r = BitVec.ofNat 8 ((v <<< 1).toNat + 2 ^ 0 * (flagC p).toNat) := or_carry_eq_ofNat hclear _
    _ = BitVec.ofNat 8 (2 * v.toNat + (flagC p).toNat) := BitVec.eq_of_toNat_eq (by
      rw [toNat_shiftLeft_one, BitVec.toNat_ofNat, BitVec.toNat_ofNat]
      omega)

/-- The old Carry enters the bit the shift has cleared. -/
theorem ror_r (v p : Byte) : (ror v p).r = BitVec.ofNat 8 (v.toNat / 2 + 128 * (flagC p).toNat) := by
  have hclear : (v >>> 1).getLsbD 7 = false := by simp
  rw [← toNat_ushiftRight_one]
  exact or_carry_eq_ofNat hclear _

theorem getLsbD_zero_eq_decide_toNat (v : Byte) : v.getLsbD 0 = decide (v.toNat % 2 = 1) :=
  Nat.testBit_zero v.toNat

theorem holds_czn_of_carry_eq {bit c : Bool} (h : bit = c) (r p : Byte) : (czn c r).Holds p (setZN r (setC bit p)) :=
  h ▸ holds_czn bit r p

/-- `g` computes these numbers for its result and its outgoing Carry, and sets Z and N from the result. -/
def ShiftsBy (g : Byte → Byte → Alu) (result : Nat → Nat → Nat) (carry : Nat → Bool) : Prop :=
  ∀ v p, (g v p).r = BitVec.ofNat 8 (result v.toNat (flagC p).toNat) ∧ (czn (carry v.toNat) (g v p).r).Holds p (g v p).p

theorem shiftsBy_asl : ShiftsBy asl (fun v _ => 2 * v) (fun v => decide (128 ≤ v)) := fun v p =>
  ⟨asl_r v p, holds_czn_of_carry_eq (getLsbD_seven_eq_decide_toNat v) _ p⟩

theorem shiftsBy_lsr : ShiftsBy lsr (fun v _ => v / 2) (fun v => decide (v % 2 = 1)) := fun v p =>
  ⟨lsr_r v p, holds_czn_of_carry_eq (getLsbD_zero_eq_decide_toNat v) _ p⟩

theorem shiftsBy_rol : ShiftsBy rol (fun v c => 2 * v + c) (fun v => decide (128 ≤ v)) := fun v p =>
  ⟨rol_r v p, holds_czn_of_carry_eq (getLsbD_seven_eq_decide_toNat v) _ p⟩

theorem shiftsBy_ror : ShiftsBy ror (fun v c => v / 2 + 128 * c) (fun v => decide (v % 2 = 1)) := fun v p =>
  ⟨ror_r v p, holds_czn_of_carry_eq (getLsbD_zero_eq_decide_toNat v) _ p⟩

/-! ## ASL, LSR, ROL, ROR (R160 to R163) -/

/-- An accumulator form and memory forms that put their operand through `g` shift it as `g` does. -/
theorem shifts_of_shiftsBy {acc : Instr} {op : Byte} {forms : List StoreForm} {g : Byte → Byte → Alu}
    {result : Nat → Nat → Nat} {carry : Nat → Bool} (hg : ShiftsBy g result carry) (hop : encode acc = [op])
    (hacc : ∀ s, exec acc s = modifyA 2 g s) (hbytes : ∀ f ∈ forms, encode f.instr = f.bytes) (hforms : FormsModify forms g)
    (s : State) : Shifts acc op forms result carry s := by
  refine ⟨⟨hop, fun r hr => ?_⟩, fun f hf => ⟨hbytes f hf, fun a r ha hr => ?_⟩⟩
  · obtain ⟨hresult, hflags⟩ := hg s.a s.p
    obtain rfl : r = (g s.a s.p).r := hr.trans hresult.symm
    exact ⟨_, hflags, hacc s⟩
  · obtain ⟨hresult, hflags⟩ := hg (peek s a) s.p
    obtain rfl : r = (g (peek s a) s.p).r := hr.trans hresult.symm
    exact runs_modify hforms hf ha hflags

/-- Settles O46: the accumulator form and the memory forms of each mnemonic put their operand through one shift of a byte. -/
theorem shiftsMoveOneBit : Obligations.ShiftsMoveOneBit := by
  intro s z addr
  have bytes := encode_of_mem_modifyForms z addr
  simp only [modifyForms, List.forall_mem_append, and_assoc] at bytes
  obtain ⟨-, -, hasl, hlsr, hrol, hror⟩ := bytes
  exact ⟨shifts_of_shiftsBy shiftsBy_asl rfl exec_aslAcc hasl (formsModify_asl z addr) s,
    shifts_of_shiftsBy shiftsBy_lsr rfl exec_lsrAcc hlsr (formsModify_lsr z addr) s,
    shifts_of_shiftsBy shiftsBy_rol rfl exec_rolAcc hrol (formsModify_rol z addr) s,
    shifts_of_shiftsBy shiftsBy_ror rfl exec_rorAcc hror (formsModify_ror z addr) s⟩

end Sys2Proof.Proofs

namespace Sys2Proof.Proofs
open Sys2Proof Sys2Proof.Machine Sys2Proof.Claims

/-! ## One tick by the position it starts from (R320 to R326) -/

/-- The tick that follows arrives at one of the three positions with an event that changes state (R322 to R324). -/
def BeforeEvent (s : State) : Prop := s.cycle = 0 ∧ (s.scanline = 240 ∨ s.scanline = 260 ∨ s.scanline = -1)

/-- The counter advance arrives at cycle 1 from cycle 0 of the same line only. -/
theorem ppuPosition_ppuAdvance_iff (s : State) (line : Int) :
    ppuPosition (ppuAdvance s) = (line, 1) ↔ s.cycle = 0 ∧ s.scanline = line := by
  rw [ppuPosition, Prod.mk.injEq]
  by_cases hlast : s.cycle + 1 = 341
  · have hcycle : (ppuAdvance s).cycle = 0 := by
      by_cases hline : s.scanline + 1 = 261
      · rw [ppuAdvance_frame hlast hline]
      · rw [ppuAdvance_line hlast hline]
    omega
  · rw [ppuAdvance_within hlast]
    simp only [Nat.add_eq_right]
    tauto

theorem ppuAdvance_of_cycle_zero {s : State} (h : s.cycle = 0) : ppuAdvance s = { s with cycle := 1 } := by
  rw [ppuAdvance_within (by omega), h]

/-- Everything a tick can do: count, or count to cycle 1 and run the event there. -/
theorem ppuTick_cases (s : State) : (¬BeforeEvent s ∧ ppuTick s = ppuAdvance s) ∨
    (s.cycle = 0 ∧ s.scanline = 240 ∧ ppuTick s = vblankSet { s with cycle := 1 }) ∨
    (s.cycle = 0 ∧ s.scanline = 260 ∧ ppuTick s = vblankClear { s with cycle := 1 }) ∨
    (s.cycle = 0 ∧ s.scanline = -1 ∧ ppuTick s = spriteClear { s with cycle := 1 }) := by
  have h := ppuEvents_cases (ppuAdvance s)
  simp only [Ne, ppuPosition_ppuAdvance_iff] at h
  rw [ppuTick]
  obtain ⟨hset, hclear, hsprite, e⟩ | ⟨⟨hc, hl⟩, e⟩ | ⟨⟨hc, hl⟩, e⟩ | ⟨⟨hc, hl⟩, e⟩ := h
  · exact .inl ⟨fun ⟨hc, hl⟩ => by tauto, e⟩
  · exact .inr (.inl ⟨hc, hl, ppuAdvance_of_cycle_zero hc ▸ e⟩)
  · exact .inr (.inr (.inl ⟨hc, hl, ppuAdvance_of_cycle_zero hc ▸ e⟩))
  · exact .inr (.inr (.inr ⟨hc, hl, ppuAdvance_of_cycle_zero hc ▸ e⟩))

theorem ppuTick_of_not_beforeEvent {s : State} (h : ¬BeforeEvent s) : ppuTick s = ppuAdvance s := by
  unfold BeforeEvent at h
  obtain ⟨-, e⟩ | ⟨hc, hl, -⟩ | ⟨hc, hl, -⟩ | ⟨hc, hl, -⟩ := ppuTick_cases s
  · exact e
  all_goals exact absurd ⟨hc, by omega⟩ h

theorem ppuTick_eq_vblankSet {s : State} (hl : s.scanline = 240) (hc : s.cycle = 0) :
    ppuTick s = vblankSet { s with cycle := 1 } := by
  obtain ⟨h, -⟩ | ⟨-, -, e⟩ | ⟨-, hl', -⟩ | ⟨-, hl', -⟩ := ppuTick_cases s
  · exact absurd ⟨hc, .inl hl⟩ h
  · exact e
  all_goals omega

theorem ppuTick_eq_vblankClear {s : State} (hl : s.scanline = 260) (hc : s.cycle = 0) :
    ppuTick s = vblankClear { s with cycle := 1 } := by
  obtain ⟨h, -⟩ | ⟨-, hl', -⟩ | ⟨-, -, e⟩ | ⟨-, hl', -⟩ := ppuTick_cases s
  · exact absurd ⟨hc, .inr (.inl hl)⟩ h
  · omega
  · exact e
  · omega

theorem ppuTick_eq_spriteClear {s : State} (hl : s.scanline = -1) (hc : s.cycle = 0) :
    ppuTick s = spriteClear { s with cycle := 1 } := by
  obtain ⟨h, -⟩ | ⟨-, hl', -⟩ | ⟨-, hl', -⟩ | ⟨-, -, e⟩ := ppuTick_cases s
  · exact absurd ⟨hc, .inr (.inr hl)⟩ h
  · omega
  · omega
  · exact e

/-- Settles O29: away from the three events a tick is the counter advance. -/
theorem otherTicksOnlyCount : Obligations.OtherTicksOnlyCount := by
  intro s h
  rw [ppuTick_of_not_beforeEvent h]
  exact ppuAdvance_eq s

/-! ## The counters (R321) -/

/-- The events leave the counters, so a tick moves them as the advance does. -/
theorem ppuTick_counters (s : State) : (ppuTick s).cycle = (ppuAdvance s).cycle ∧
    (ppuTick s).scanline = (ppuAdvance s).scanline ∧ (ppuTick s).frameCount = (ppuAdvance s).frameCount := by
  obtain ⟨-, -, -, -, -, -, -, -, -, hcounters⟩ := ppuEvents_frame (ppuAdvance s)
  exact hcounters

theorem inRange_ppuTick {s : State} (h : InRange s) : InRange (ppuTick s) := by
  obtain ⟨hc, hl, hh⟩ := h
  obtain ⟨hc', hl', hh', -⟩ := ppuAdvance_position hc hl hh
  obtain ⟨ec, el, -⟩ := ppuTick_counters s
  exact ⟨ec ▸ hc', el ▸ hl', el ▸ hh'⟩

/-- A tick is one position. -/
theorem dots_ppuTick {s : State} (h : InRange s) : dots (ppuTick s) = dots s + 1 := by
  obtain ⟨hc, hl, hh⟩ := h
  obtain ⟨-, -, -, hpos⟩ := ppuAdvance_position hc hl hh
  obtain ⟨ec, el, ef⟩ := ppuTick_counters s
  simp only [dots, ec, el, ef, Nat.cast_mul, Nat.cast_ofNat]
  exact hpos

theorem ppuTicks_succ (n : Nat) (s : State) : ppuTicks (n + 1) s = ppuTick (ppuTicks n s) := by
  induction n generalizing s with
  | zero => rfl
  | succ n ih => exact ih (ppuTick s)

theorem inRange_ppuTicks (n : Nat) {s : State} (h : InRange s) : InRange (ppuTicks n s) := by
  induction n with
  | zero => exact h
  | succ n ih => exact ppuTicks_succ n s ▸ inRange_ppuTick ih

theorem dots_ppuTicks (n : Nat) {s : State} (h : InRange s) : dots (ppuTicks n s) = dots s + n := by
  induction n with
  | zero => exact (add_zero _).symm
  | succ n ih =>
    rw [ppuTicks_succ, dots_ppuTick (inRange_ppuTicks n h), ih]
    push_cast
    ring

theorem wf_ppuTicks (n : Nat) {s : State} (h : s.mem.wf) : (ppuTicks n s).mem.wf := by
  induction n with
  | zero => exact h
  | succ n ih => exact ppuTicks_succ n s ▸ wf_ppuTick ih

/-- Settles O31: two positions in range that lie whole frames apart are the same within their frame. -/
theorem frameIsPeriodic : Obligations.FrameIsPeriodic := by
  intro s n hs
  obtain ⟨hc, hl, hh⟩ := hs
  obtain ⟨hc', hl', hh'⟩ := inRange_ppuTicks (89342 * n) ⟨hc, hl, hh⟩
  have hdots := dots_ppuTicks (89342 * n) ⟨hc, hl, hh⟩
  unfold dots at hdots
  omega

/-- Settles O25: the three cases of the counter advance; a frame is one period. -/
theorem tickAdvancesCounters : Obligations.TickAdvancesCounters := by
  intro s
  obtain ⟨ec, el, ef⟩ := ppuTick_counters s
  rw [ec, el, ef]
  have hcounters : (ppuAdvance s).cycle = (if s.cycle = 340 then 0 else s.cycle + 1) ∧
      (ppuAdvance s).scanline = (if s.cycle = 340 then (if s.scanline = 260 then -1 else s.scanline + 1) else s.scanline) ∧
      (ppuAdvance s).frameCount = (if s.cycle = 340 ∧ s.scanline = 260 then s.frameCount + 1 else s.frameCount) := by
    by_cases hcycle : s.cycle = 340
    · by_cases hline : s.scanline = 260
      · rw [ppuAdvance_frame (by omega) (by omega)]
        simp [hcycle, hline]
      · rw [ppuAdvance_line (by omega) (by omega)]
        simp [hcycle, hline]
    · rw [ppuAdvance_within (by omega)]
      simp [hcycle]
  obtain ⟨hcycle, hline, hframe⟩ := hcounters
  exact ⟨hcycle, hline, hframe, fun h => ⟨inRange_ppuTick h, frameIsPeriodic s 1 h⟩⟩

end Sys2Proof.Proofs

namespace Sys2Proof.Proofs
open Sys2Proof Sys2Proof.Machine Sys2Proof.Claims

/-! ## A CPU step from outside: its ticks, its latches, its status byte -/

/-- Apart from the NMI latch, which an entry clears, and the fault record, which an unknown opcode sets, a CPU step is register
changes and bus accesses. -/
theorem busReach_cpuStep {s t : State} (h : cpuStep s = .next t) :
    ∃ latch u fault, BusReach { s with nmiPending := latch } u ∧ t = { u with fault := fault } := by
  have hfetch : BusReach s (fetchInstr (s.withCycles 0)).2 :=
    ((BusReach.refl s).withCycles 0).trans (busReach_fetchInstr (s.withCycles 0))
  obtain ⟨-, ⟨-, rfl⟩ | ⟨op, s1, -, hop, rfl⟩ | ⟨i, s1, -, hi, hexec⟩⟩ := cpuStep_cases h
  · exact ⟨false, nmiEntry (s.withCycles 0), _, ((BusReach.refl _).withCycles 0).interruptEntry _ _ _, rfl⟩
  · rw [hop] at hfetch
    exact ⟨s.nmiPending, s1, some (.unknownOpcode op), hfetch, rfl⟩
  · rw [hi] at hfetch
    exact ⟨s.nmiPending, t, _, hfetch.trans (busReach_exec hexec), rfl⟩

/-- A CPU step that ends in the fault state took no cycle (R301). -/
theorem cycleCount_cpuStep_of_fault {s t : State} (h : cpuStep s = .next t) (hfault : t.fault ≠ none) : t.cycleCount = 0 := by
  obtain ⟨hs, ⟨-, rfl⟩ | ⟨op, s1, -, hop, rfl⟩ | ⟨i, s1, -, hi, hexec⟩⟩ := cpuStep_cases h
  · rw [nmiEntry_eq] at hfault
    exact absurd hs hfault
  · obtain ⟨-, hcycles⟩ := fetchInstr_frame (s.withCycles 0)
    rw [hop] at hcycles
    exact hcycles
  · obtain ⟨-, -, -, -, hfetched⟩ := (busReach_fetchInstr (s.withCycles 0)).outside
    obtain ⟨-, -, -, -, hrun⟩ := (busReach_exec hexec).outside
    rw [hi] at hfetched
    exact absurd (hrun.trans (hfetched.trans hs)) hfault

/-- The ticks of a step: three for each cycle, whether the machine is faulted or not if a fault goes with no cycle. -/
theorem settle_eq_ppuTicks {s : State} (h : s.fault ≠ none → s.cycleCount = 0) : settle s = ppuTicks (3 * s.cycleCount) s := by
  cases hfault : s.fault with
  | none => exact unlessFaulted_of_none hfault _
  | some r =>
    rw [h (by simp [hfault])]
    exact unlessFaulted_of_some hfault _

/-- A step is a CPU step and three ticks for each of its cycles (R340). -/
theorem step_eq_ppuTicks {s t : State} (h : step s = .next t) :
    ∃ u, cpuStep s = .next u ∧ t = ppuTicks (3 * u.cycleCount) u := by
  obtain ⟨u, hu, rfl⟩ := step_eq_settle h
  exact ⟨u, hu, settle_eq_ppuTicks (cycleCount_cpuStep_of_fault hu)⟩

/-- No CPU step moves the PPU. -/
theorem counters_cpuStep {s t : State} (h : cpuStep s = .next t) :
    t.cycle = s.cycle ∧ t.scanline = s.scanline ∧ t.frameCount = s.frameCount := by
  obtain ⟨latch, u, fault, hreach, rfl⟩ := busReach_cpuStep h
  obtain ⟨hcycle, hline, hframe, -⟩ := hreach.outside
  exact ⟨hcycle, hline, hframe⟩

/-- Settles O10: the CPU step leaves the counters, and each of its ticks is one position. -/
theorem stepRunsThreeTicksPerCycle : Obligations.StepRunsThreeTicksPerCycle := by
  intro s t hs h
  obtain ⟨u, hu, rfl⟩ := step_eq_ppuTicks h
  obtain ⟨hcycle, hline, hframe⟩ := counters_cpuStep hu
  obtain ⟨-, hcount, -⟩ := ppuTicks_frame (3 * u.cycleCount) u
  have hrange : InRange u := by rwa [InRange, hcycle, hline]
  have hdots : dots u = dots s := by rw [dots, dots, hcycle, hline, hframe]
  refine ⟨inRange_ppuTicks _ hrange, ?_⟩
  rw [hcount, dots_ppuTicks _ hrange, hdots]
  push_cast
  rfl

/-! ## The status byte through a tick (R322 to R324, R335) -/

theorem ppuStatus_vblankSet {s : State} (h : s.mem.wf) :
    ppuStatus (vblankSet s) = if s.suppressVbl then ppuStatus s else ppuStatus s ||| 0x80 := by
  unfold vblankSet
  split
  · rfl
  · exact ppuStatus_setStatus h _

theorem ppuStatus_vblankClear {s : State} (h : s.mem.wf) : ppuStatus (vblankClear s) = ppuStatus s &&& 0x7F :=
  ppuStatus_clearStatus h maskVBlank

theorem ppuStatus_spriteClear {s : State} (h : s.mem.wf) : ppuStatus (spriteClear s) = ppuStatus s &&& 0x9F := by
  rw [spriteClear, ppuStatus_clearStatus (wf_clearStatus h _), ppuStatus_clearStatus h, BitVec.and_assoc]
  rfl

section
variable {s : State}

theorem ppuStatus_ppuTick_quiet (h : ¬BeforeEvent s) : ppuStatus (ppuTick s) = ppuStatus s := by
  rw [ppuTick_of_not_beforeEvent h, ppuAdvance_eq]
  rfl

theorem ppuStatus_ppuTick_vblankSet (h : s.mem.wf) (hline : s.scanline = 240) (hcycle : s.cycle = 0) :
    ppuStatus (ppuTick s) = if s.suppressVbl then ppuStatus s else ppuStatus s ||| 0x80 := by
  rw [ppuTick_eq_vblankSet hline hcycle]
  exact ppuStatus_vblankSet h

theorem ppuStatus_ppuTick_vblankClear (h : s.mem.wf) (hline : s.scanline = 260) (hcycle : s.cycle = 0) :
    ppuStatus (ppuTick s) = ppuStatus s &&& 0x7F := by
  rw [ppuTick_eq_vblankClear hline hcycle]
  exact ppuStatus_vblankClear h

theorem ppuStatus_ppuTick_spriteClear (h : s.mem.wf) (hline : s.scanline = -1) (hcycle : s.cycle = 0) :
    ppuStatus (ppuTick s) = ppuStatus s &&& 0x9F := by
  rw [ppuTick_eq_spriteClear hline hcycle]
  exact ppuStatus_spriteClear h

/-- A tick sets no bit of the status byte but VBlank, and that at (240, 1) only. -/
theorem ppuStatus_ppuTick_cases (h : s.mem.wf) : (s.scanline = 240 ∧ s.cycle = 0 ∧ ppuStatus (ppuTick s) = ppuStatus s ||| 0x80) ∨
    ∃ mask, ppuStatus (ppuTick s) = ppuStatus s &&& mask := by
  have hkept : ppuStatus s = ppuStatus s &&& BitVec.allOnes 8 := BitVec.and_allOnes.symm
  obtain ⟨hquiet, -⟩ | ⟨hc, hl, -⟩ | ⟨hc, hl, -⟩ | ⟨hc, hl, -⟩ := ppuTick_cases s
  · exact .inr ⟨_, (ppuStatus_ppuTick_quiet hquiet).trans hkept⟩
  · have hset := ppuStatus_ppuTick_vblankSet h hl hc
    split at hset
    · exact .inr ⟨_, hset.trans hkept⟩
    · exact .inl ⟨hl, hc, hset⟩
  · exact .inr ⟨_, ppuStatus_ppuTick_vblankClear h hl hc⟩
  · exact .inr ⟨_, ppuStatus_ppuTick_spriteClear h hl hc⟩

end

/-- The sprite flags of a status byte are clear. -/
def SpritesClear (v : Byte) : Prop := v &&& 0x60 = 0

theorem spritesClear_and {v : Byte} (h : SpritesClear v) (mask : Byte) : SpritesClear (v &&& mask) := by
  unfold SpritesClear at h ⊢
  rw [BitVec.and_assoc, BitVec.and_comm mask, ← BitVec.and_assoc, h]
  exact BitVec.zero_and

theorem spritesClear_or_vblank {v : Byte} (h : SpritesClear v) : SpritesClear (v ||| 0x80) := by
  unfold SpritesClear at h ⊢
  rw [BitVec.and_or_distrib_right, h]
  rfl

theorem spritesClear_ppuTick {s : State} (hs : s.mem.wf) (h : SpritesClear (ppuStatus s)) :
    SpritesClear (ppuStatus (ppuTick s)) := by
  obtain ⟨-, -, e⟩ | ⟨mask, e⟩ := ppuStatus_ppuTick_cases hs <;> rw [e]
  · exact spritesClear_or_vblank h
  · exact spritesClear_and h mask

theorem spritesClear_ppuTicks (n : Nat) {s : State} (hs : s.mem.wf) (h : SpritesClear (ppuStatus s)) :
    SpritesClear (ppuStatus (ppuTicks n s)) := by
  induction n with
  | zero => exact h
  | succ n ih => exact ppuTicks_succ n s ▸ spritesClear_ppuTick (wf_ppuTicks n hs) ih

/-- Settles O15: the CPU can only clear VBlank in the status byte, and a tick only sets VBlank. -/
theorem spriteFlagsStayClear : Obligations.SpriteFlagsStayClear := by
  intro s t hs h hclear
  obtain ⟨u, hu, rfl⟩ := step_eq_ppuTicks h
  obtain ⟨latch, v, fault, hreach, rfl⟩ := busReach_cpuStep hu
  refine spritesClear_ppuTicks _ (hreach.wf hs) ?_
  obtain e | e := hreach.status hs
  · exact e.symm ▸ hclear
  · exact e.symm ▸ spritesClear_and hclear _

/-! ## The three events (R322 to R324) -/

theorem peek_status (s : State) : peek s 0x2002 = ppuStatus s := rfl

theorem cellOf_ne_status {b : Word} (h : canon b ≠ 0x2002) : cellOf b ≠ statusCell := mt (canon_eq_status_iff b).2 h

theorem peek_ppuTick_other {b : Word} (h : canon b ≠ 0x2002) (s : State) : peek (ppuTick s) b = peek s b :=
  read_ppuTick_other (cellOf_ne_status h) s

theorem vblankSet_eq (s : State) : vblankSet s =
    { s with
      mem := (vblankSet s).mem
      nmiPending := s.nmiPending || (nmiEnable s && !s.suppressNmi)
      suppressVbl := false
      suppressNmi := false } := by
  unfold vblankSet
  split <;> rfl

/-- Settles O26: the tick arriving at (240, 1) is the VBlank set event. -/
theorem vBlankSetTick : Obligations.VBlankSetTick := by
  intro s hs hline hcycle
  refine ⟨ppuStatus_ppuTick_vblankSet hs hline hcycle, fun b hb => peek_ppuTick_other hb s, ?_⟩
  rw [ppuTick_eq_vblankSet hline hcycle]
  exact vblankSet_eq _

/-- Settles O28: the tick arriving at (-1, 1) is the sprite clear event. -/
theorem spriteClearTick : Obligations.SpriteClearTick := by
  intro s hs hline hcycle
  refine ⟨ppuStatus_ppuTick_spriteClear hs hline hcycle, fun b hb => peek_ppuTick_other hb s, ?_⟩
  rw [ppuTick_eq_spriteClear hline hcycle]
  rfl

/-- Ticks that start before no event write no byte. -/
theorem mem_ppuTicks_of_quiet {n : Nat} {s : State} (h : ∀ k < n, ¬BeforeEvent (ppuTicks k s)) : (ppuTicks n s).mem = s.mem := by
  induction n with
  | zero => rfl
  | succ n ih =>
    rw [ppuTicks_succ, ppuTick_of_not_beforeEvent (h n n.lt_succ_self), ppuAdvance_eq]
    exact ih fun k hk => h k (hk.trans n.lt_succ_self)

/-- Where the PPU is `n` ticks after a position in range, as an equation of positions. -/
theorem position_ppuTicks (n : Nat) {s : State} (h : InRange s) : InRange (ppuTicks n s) ∧
    ((ppuTicks n s).frameCount * 89342 : Int) + ((ppuTicks n s).scanline + 1) * 341 + (ppuTicks n s).cycle =
      (s.frameCount * 89342 : Int) + (s.scanline + 1) * 341 + s.cycle + n := by
  have hdots := dots_ppuTicks n h
  simp only [dots, Nat.cast_mul, Nat.cast_ofNat] at hdots
  exact ⟨inRange_ppuTicks n h, hdots⟩

section
variable {s : State}

theorem inRange_vblank (hline : s.scanline = 240) (hcycle : s.cycle ≤ 1) : InRange s := ⟨by omega, by omega, by omega⟩

/-- From (240, 1) no event comes before (260, 1). -/
theorem mem_ppuTicks_vblank (hline : s.scanline = 240) (hcycle : s.cycle = 1) {n : Nat} (hn : n < 6820) :
    (ppuTicks n s).mem = s.mem := by
  refine mem_ppuTicks_of_quiet fun k hk => ?_
  obtain ⟨⟨-, hl, hh⟩, hpos⟩ := position_ppuTicks k (inRange_vblank hline hcycle.le)
  rintro ⟨hc, hl' | hl' | hl'⟩ <;> omega

/-- 6819 ticks after (240, 1) the PPU is at (260, 0). -/
theorem position_vblank_end (hline : s.scanline = 240) (hcycle : s.cycle = 1) :
    (ppuTicks 6819 s).scanline = 260 ∧ (ppuTicks 6819 s).cycle = 0 := by
  obtain ⟨⟨hc, hl, hh⟩, hpos⟩ := position_ppuTicks 6819 (inRange_vblank hline hcycle.le)
  omega

end

theorem getLsbD_and_low7 (v : Byte) : (v &&& 0x7F).getLsbD 7 = false := by simp

/-- Settles O27: the tick arriving at (260, 1) is the VBlank clear event, and it is the first event after (240, 1), 6820 ticks on. -/
theorem vBlankClearTick : Obligations.VBlankClearTick := by
  intro s hs
  refine ⟨fun hline hcycle => ⟨ppuStatus_ppuTick_vblankClear hs hline hcycle, fun b hb => peek_ppuTick_other hb s, ?_⟩,
    fun hline hcycle hset => ⟨fun n hn => ?_, ?_⟩⟩
  · rw [ppuTick_eq_vblankClear hline hcycle]
    rfl
  · rw [peek, mem_ppuTicks_vblank hline hcycle hn]
    exact hset
  · obtain ⟨hline', hcycle'⟩ := position_vblank_end hline hcycle
    rw [ppuTicks_succ 6819, peek_status, ppuStatus_ppuTick_vblankClear (wf_ppuTicks 6819 hs) hline' hcycle']
    exact getLsbD_and_low7 _

/-! ## The status read and its race with the VBlank set (R329, R330) -/

theorem peek_eq_status {a : Word} (h : canon a = 0x2002) (s : State) : peek s a = peek s 0x2002 := by
  rw [peek, (canon_eq_status_iff a).1 h]
  rfl

/-- The state after a read of the status register. -/
theorem memRead_of_status {a : Word} (h : canon a = 0x2002) (s : State) : memRead a s = (peek s 0x2002, statusReadEffects s) :=
  Prod.ext ((memRead_fst a s).trans (peek_eq_status h s)) ((memRead_snd a s).trans (if_pos h))

theorem statusReadEffects_eq (s : State) : statusReadEffects s =
    { s with
      mem := (statusReadEffects s).mem
      w := false
      suppressVbl := s.suppressVbl || (s.scanline == 240 && s.cycle == 0)
      suppressNmi := s.suppressNmi || (s.scanline == 240 && s.cycle == 0) } := by
  have hrace : decide ((s.scanline, s.cycle) = vblRaceAt) = (s.scanline == 240 && s.cycle == 0) := by
    rw [vblRaceAt_eq, Bool.eq_iff_iff]
    simp
  simp only [statusReadEffects, hrace, Bool.or_comm (s.scanline == 240 && s.cycle == 0)]
  rfl

theorem ppuStatus_statusReadEffects {s : State} (h : s.mem.wf) : ppuStatus (statusReadEffects s) = ppuStatus s &&& 0x7F :=
  ppuStatus_clearStatus h maskVBlank

/-- Settles O24: a read at an image of the status register is the stored byte and the effects of a status read. -/
theorem statusReadClearsVBlank : Obligations.StatusReadClearsVBlank := by
  intro s a hs hge hlt hmod
  have hstatus : canon a = 0x2002 := (canon_eq_status_iff a).2 ((cellOf_eq_ppuRegister_iff a (by decide)).2 ⟨hge, hlt, hmod⟩)
  exact ⟨statusReadEffects s, memRead_of_status hstatus s, ppuStatus_statusReadEffects hs,
    fun b hb => peek_statusReadEffects_other (cellOf_ne_status hb) s, statusReadEffects_eq s⟩

/-- `s` has VBlank clear, suppresses nothing, and has this NMI latch. -/
structure Waiting (latch : Bool) (s : State) : Prop where
  vblankClear : (ppuStatus s).getLsbD 7 = false
  latchKept : s.nmiPending = latch
  vblFree : s.suppressVbl = false
  nmiFree : s.suppressNmi = false

section
variable {latch : Bool} {s : State}

/-- A tick from elsewhere than (240, 0) leaves the NMI latch and the suppression flags. -/
theorem ppuTick_latches (hpos : ¬(s.scanline = 240 ∧ s.cycle = 0)) : (ppuTick s).nmiPending = s.nmiPending ∧
    (ppuTick s).suppressVbl = s.suppressVbl ∧ (ppuTick s).suppressNmi = s.suppressNmi := by
  obtain ⟨-, e⟩ | ⟨hc, hl, -⟩ | ⟨-, -, e⟩ | ⟨-, -, e⟩ := ppuTick_cases s
  · rw [e, ppuAdvance_eq]
    exact ⟨rfl, rfl, rfl⟩
  · exact absurd ⟨hl, hc⟩ hpos
  · rw [e]
    exact ⟨rfl, rfl, rfl⟩
  · rw [e]
    exact ⟨rfl, rfl, rfl⟩

/-- Only the tick from (240, 0) ends the wait. -/
theorem waiting_ppuTick (hs : s.mem.wf) (h : Waiting latch s) (hpos : ¬(s.scanline = 240 ∧ s.cycle = 0)) :
    Waiting latch (ppuTick s) := by
  obtain ⟨hnmi, hvbl, hfree⟩ := ppuTick_latches hpos
  refine ⟨?_, hnmi.trans h.latchKept, hvbl.trans h.vblFree, hfree.trans h.nmiFree⟩
  obtain ⟨hl, hc, -⟩ | ⟨mask, e⟩ := ppuStatus_ppuTick_cases hs
  · exact absurd ⟨hl, hc⟩ hpos
  · rw [e, BitVec.getLsbD_and, h.vblankClear, Bool.false_and]

/-- From (240, 1) the wait lasts to (240, 0) of the next frame. -/
theorem waiting_ppuTicks (hs : s.mem.wf) (h : Waiting latch s) (hline : s.scanline = 240) (hcycle : s.cycle = 1) {n : Nat}
    (hn : n ≤ 89341) : Waiting latch (ppuTicks n s) := by
  induction n with
  | zero => exact h
  | succ n ih =>
    rw [ppuTicks_succ]
    refine waiting_ppuTick (wf_ppuTicks n hs) (ih (by omega)) ?_
    obtain ⟨⟨-, hl, hh⟩, hpos⟩ := position_ppuTicks n (inRange_vblank hline hcycle.le)
    omega

/-- The wait ends with VBlank set and the NMI requested if it is enabled (R322). -/
theorem ppuTick_of_waiting (hs : s.mem.wf) (h : Waiting latch s) (hline : s.scanline = 240) (hcycle : s.cycle = 0) :
    (ppuStatus (ppuTick s)).getLsbD 7 = true ∧ (ppuTick s).nmiPending = (latch || nmiEnable s) := by
  obtain ⟨hstatus, -, e⟩ := vBlankSetTick s hs hline hcycle
  refine ⟨?_, ?_⟩
  · rw [← peek_status, hstatus, h.vblFree]
    simp
  · rw [e]
    simp only [h.latchKept, h.nmiFree, Bool.not_false, Bool.and_true]
    rfl

theorem ppuTick_vblankSet_frame (hline : s.scanline = 240) (hcycle : s.cycle = 0) :
    (ppuTick s).scanline = 240 ∧ (ppuTick s).cycle = 1 ∧ (ppuTick s).w = s.w := by
  rw [ppuTick_eq_vblankSet hline hcycle, vblankSet_eq]
  exact ⟨hline, rfl, rfl⟩

/-- A status read at (240, 0) makes the set tick begin a wait (R330). -/
theorem waiting_after_race (hs : s.mem.wf) (hline : s.scanline = 240) (hcycle : s.cycle = 0) :
    Waiting s.nmiPending (ppuTick (statusReadEffects s)) := by
  have hvbl : (statusReadEffects s).suppressVbl = true := by rw [statusReadEffects_eq]; simp [hline, hcycle]
  have hnmi : (statusReadEffects s).suppressNmi = true := by rw [statusReadEffects_eq]; simp [hline, hcycle]
  have hstatus := ppuStatus_ppuTick_vblankSet (wf_statusReadEffects hs) hline hcycle
  refine ⟨?_, ?_, ?_, ?_⟩
  · rw [hstatus, hvbl, if_pos rfl, ppuStatus_statusReadEffects hs]
    exact getLsbD_and_low7 _
  all_goals rw [ppuTick_eq_vblankSet (s := statusReadEffects s) hline hcycle, vblankSet_eq]
  simp only [hnmi, Bool.not_true, Bool.and_false, Bool.or_false]
  rfl

end

theorem nmiEnable_ppuTicks (n : Nat) (s : State) : nmiEnable (ppuTicks n s) = nmiEnable s :=
  congrArg (·.getLsbD 7) (read_ppuTicks_other (by decide) n s)

theorem nmiEnable_statusReadEffects (s : State) : nmiEnable (statusReadEffects s) = nmiEnable s :=
  congrArg (·.getLsbD 7) (read_setStatus_other (by decide) _ s)

/-- Settles O30: the read suppresses the set tick, which leaves the PPU waiting for the one of the next frame. -/
theorem statusReadRaceSuppressesFrame : Obligations.StatusReadRaceSuppressesFrame := by
  intro s a hs ha hline hcycle
  have hr := wf_statusReadEffects hs
  have hwait := waiting_after_race hs hline hcycle
  obtain ⟨hline1, hcycle1, hw⟩ := ppuTick_vblankSet_frame (s := statusReadEffects s) hline hcycle
  have hwaits : ∀ n ≤ 89341, Waiting s.nmiPending (ppuTicks (n + 1) (statusReadEffects s)) := fun n hn =>
    waiting_ppuTicks (wf_ppuTick hr) hwait hline1 hcycle1 hn
  obtain ⟨-, -, -, hperiod⟩ := tickAdvancesCounters (statusReadEffects s)
  obtain ⟨-, hcycle', hline', -⟩ := hperiod (inRange_vblank hline (hcycle.trans_le zero_le_one))
  obtain ⟨hset, hnmi⟩ := ppuTick_of_waiting (wf_ppuTicks 89342 hr) (hwaits 89341 le_rfl) (hline'.trans hline) (hcycle'.trans hcycle)
  refine ⟨statusReadEffects s, memRead_of_status ha s,
    ⟨_, rfl, hwait.vblankClear, hwait.latchKept, hwait.vblFree, hwait.nmiFree, hw, hcycle1, hline1⟩, fun n hn => ?_, ?_, ?_⟩
  · cases n with
    | zero => exact ⟨(congrArg (·.getLsbD 7) (ppuStatus_statusReadEffects hs)).trans (getLsbD_and_low7 _), rfl⟩
    | succ n => exact ⟨(hwaits n (by omega)).vblankClear, (hwaits n (by omega)).latchKept⟩
  · rw [ppuTicks_succ 89342]
    exact hset
  · rw [ppuTicks_succ 89342, hnmi, nmiEnable_ppuTicks, nmiEnable_statusReadEffects]
    rfl

end Sys2Proof.Proofs

namespace Sys2Proof.Proofs
open Sys2Proof Sys2Proof.Machine Sys2Proof.Claims Sys2Proof.Laws

/-! ## Words on the stack (R52, R120, R121) -/

theorem sp_sub_two (sp : Byte) : sp - 1 - 1 = sp - 2 := BitVec.sub_sub sp 1 1
theorem sp_sub_three (sp : Byte) : sp - 1 - 1 - 1 = sp - 3 :=
  (BitVec.sub_sub (sp - 1) 1 1).trans (BitVec.sub_sub sp 1 2)
theorem sp_add_two (sp : Byte) : sp + 1 + 1 = sp + 2 := BitVec.add_assoc sp 1 1
theorem sp_add_three (sp : Byte) : sp + 1 + 1 + 1 = sp + 3 :=
  (BitVec.add_assoc (sp + 1) 1 1).trans (BitVec.add_assoc sp 1 2)

theorem peek_stackPull (s : State) (k : Nat) :
    peek s (stackPull s k) = s.mem.read (0x100 + (s.sp + BitVec.ofNat 8 k).toNat) := by
  rw [peek, stackPull, cellOf_stackAddr]

theorem memWrite_stackTop_zero (v : Byte) (s : State) :
    memWrite (stackTop s 0) v s = s.withMem (s.mem.write (0x100 + s.sp.toNat) v) := by
  rw [stackTop_zero, memWrite_stackAddr]

/-- The byte array after a word is pushed, high byte first. -/
def pushedMem (v : Word) (s : State) : Memory :=
  (s.mem.write (0x100 + s.sp.toNat) (hi8 v)).write (0x100 + (s.sp - 1).toNat) (lo8 v)

theorem pushedMem_eq_memWrite (v : Word) (s : State) :
    memWrite (stackTop s 1) (lo8 v) (memWrite (stackTop s 0) (hi8 v) s) = s.withMem (pushedMem v s) := by
  rw [memWrite_stackTop_zero, stackTop_one, memWrite_stackAddr]
  rfl

theorem entryMem_eq_memWrite (ret : Word) (status : Byte) (s : State) :
    memWrite (stackTop s 2) status (memWrite (stackTop s 1) (lo8 ret) (memWrite (stackTop s 0) (hi8 ret) s)) =
      s.withMem (entryMem ret status s) := by
  rw [pushedMem_eq_memWrite, stackTop_two, memWrite_stackAddr]
  rfl

/-- Two stack pointers one or two apart are apart in the stack page. -/
theorem stackCell_ne (sp : Byte) : 0x100 + sp.toNat ≠ 0x100 + (sp - 1).toNat ∧ 0x100 + sp.toNat ≠ 0x100 + (sp - 2).toNat ∧
    0x100 + (sp - 1).toNat ≠ 0x100 + (sp - 2).toNat := by
  refine ⟨?_, ?_, ?_⟩ <;> bv_omega

section
variable {s : State} (hs : s.mem.wf)
include hs

theorem rising_pushedMem (v : Word) : (pushedMem v s).Pairwise (fun c d => c.1 < d.1) :=
  Memory.rising_write (Memory.rising_write hs.1 _ _) _ _

theorem read_pushedMem_low (v : Word) : (pushedMem v s).read (0x100 + (s.sp - 1).toNat) = lo8 v :=
  Memory.read_write_same (Memory.rising_write hs.1 _ _) _ _

theorem read_pushedMem_high (v : Word) : (pushedMem v s).read (0x100 + s.sp.toNat) = hi8 v := by
  obtain ⟨hne, -⟩ := stackCell_ne s.sp
  exact (Memory.read_write_other _ _ hne).trans (Memory.read_write_same hs.1 _ _)

theorem read_entryMem_status (ret : Word) (status : Byte) : (entryMem ret status s).read (0x100 + (s.sp - 1 - 1).toNat) = status :=
  Memory.read_write_same (rising_pushedMem hs ret) _ _

theorem read_entryMem_low (ret : Word) (status : Byte) : (entryMem ret status s).read (0x100 + (s.sp - 1).toNat) = lo8 ret := by
  obtain ⟨-, -, hne⟩ := stackCell_ne s.sp
  exact (Memory.read_write_other _ _ (sp_sub_two s.sp ▸ hne)).trans (read_pushedMem_low hs ret)

theorem read_entryMem_high (ret : Word) (status : Byte) : (entryMem ret status s).read (0x100 + s.sp.toNat) = hi8 ret := by
  obtain ⟨-, hne, -⟩ := stackCell_ne s.sp
  exact (Memory.read_write_other _ _ (sp_sub_two s.sp ▸ hne)).trans (read_pushedMem_high hs ret)

end

/-! ## JMP, JSR, RTS (R170 to R172) -/

/-- The second byte of a pointer comes from the pointer's page (R82). -/
theorem word_samePage (addr : Word) :
    word (hi8 addr) (lo8 addr + 1) = BitVec.ofNat 16 (addr.toNat / 256 * 256 + (addr.toNat + 1) % 256) := by
  have one : (1 : Byte).toNat = 1 := rfl
  have h := addr.isLt
  apply BitVec.eq_of_toNat_eq
  rw [word_toNat, hi8_toNat, BitVec.toNat_add, lo8_toNat, one, BitVec.toNat_ofNat]
  omega

/-- Of the two bytes of a pointer at most one is the status register. -/
theorem canon_ne_status_of_samePage {addr : Word} (h : canon addr = 0x2002) :
    canon (word (hi8 addr) (lo8 addr + 1)) ≠ 0x2002 := fun h' => by
  have hlt := addr.isLt
  obtain ⟨-, -, hmod⟩ := (cellOf_eq_ppuRegister_iff _ (by decide)).1 ((canon_eq_status_iff _).1 h)
  obtain ⟨-, -, hmod'⟩ := (cellOf_eq_ppuRegister_iff _ (by decide)).1 ((canon_eq_status_iff _).1 h')
  rw [word_samePage, BitVec.toNat_ofNat] at hmod'
  omega

/-- The target of JMP indirect, and the effects of its two reads: those of one status read, or none. -/
theorem indirectTarget_eq (addr : Word) (s : State) : indirectTarget addr s =
    (word (peek s (word (hi8 addr) (lo8 addr + 1))) (peek s addr),
      if canon addr = 0x2002 ∨ canon (word (hi8 addr) (lo8 addr + 1)) = 0x2002 then statusReadEffects s else s) := by
  simp only [indirectTarget, memRead_fst, peek_memRead_other canon_ne_status_of_samePage]
  by_cases h : canon addr = 0x2002
  · rw [memRead_snd_of_ne (canon_ne_status_of_samePage h), memRead_snd, if_pos h, if_pos (.inl h)]
  · rw [memRead_snd_of_ne h, memRead_snd]
    simp only [h, false_or]

/-- The return address JSR pushes is the one before `pc`. -/
theorem ofNat_add_65535 (w : Word) : BitVec.ofNat 16 (w.toNat + 65535) = w - 1 := by bv_omega

theorem exec_jsr_eq (addr : Word) (s : State) : exec (.jsr addr) s =
    .next { s with mem := pushedMem (s.pc - 1) s, sp := s.sp - 1 - 1, pc := addr, cycleCount := 6 } := by
  rw [exec_jsr, pushWord_eq]
  rfl

theorem exec_rts_eq (s : State) : exec .rts s =
    .next { s with
      pc := word (s.mem.read (0x100 + (s.sp + 1 + 1).toNat)) (s.mem.read (0x100 + (s.sp + 1).toNat)) + 1
      sp := s.sp + 1 + 1
      cycleCount := 6 } := by
  rw [exec_rts, pullWord_eq]
  rfl

theorem word_add_one (hi lo : Byte) : word hi lo + 1 = BitVec.ofNat 16 (lo.toNat + 256 * hi.toNat + 1) := by
  have one : (1 : Word).toNat = 1 := rfl
  apply BitVec.eq_of_toNat_eq
  rw [BitVec.toNat_add, word_toNat, one, BitVec.toNat_ofNat]
  omega

/-- Settles O47: each by its equation over the pointer reads, the pushed word and the pulled word. -/
theorem jumpsSetProgramCounter : Obligations.JumpsSetProgramCounter := by
  intro s addr second ret
  refine ⟨⟨rfl, exec_jmpAbs addr s⟩, fun hsecond => ?_, fun hret => ⟨rfl, ?_⟩, rfl, ?_⟩
  · obtain rfl : second = word (hi8 addr) (lo8 addr + 1) := hsecond.trans (word_samePage addr).symm
    refine ⟨rfl, fun h h' => ?_, fun h => ?_⟩ <;> rw [exec_jmpInd, indirectTarget_eq]
    · rw [if_neg (not_or.2 ⟨h, h'⟩)]
      rfl
    · rw [if_pos h]
      rfl
  · obtain rfl : ret = s.pc - 1 := hret.trans (ofNat_add_65535 s.pc)
    rw [exec_jsr_eq, pushedMem_eq_memWrite, sp_sub_two]
    rfl
  · rw [exec_rts_eq, word_add_one, sp_add_two, peek_stackPull, peek_stackPull]
    rfl

/-- Settles O48: RTS pulls the word JSR pushed, the address before `pc`, and adds one. -/
theorem jsrThenRtsReturns : Obligations.JsrThenRtsReturns := by
  intro s addr hs
  have hsp1 : s.sp - 1 - 1 + 1 = s.sp - 1 := BitVec.sub_add_cancel _ 1
  have hsp0 : s.sp - 1 + 1 = s.sp := BitVec.sub_add_cancel _ 1
  have hpc : s.pc - 1 + 1 = s.pc := BitVec.sub_add_cancel _ 1
  refine ⟨_, { s with mem := pushedMem (s.pc - 1) s, cycleCount := 6 }, exec_jsr_eq addr s, ?_, rfl,
    fun b h0 h1 => read_pushWord_other h0 h1 _ _⟩
  rw [exec_rts_eq]
  simp only [hsp1, hsp0, read_pushedMem_low hs, read_pushedMem_high hs, word_hi8_lo8, hpc]

/-! ## Branches (R85, R180 to R188) -/

/-- Each branch tests the condition of its row. -/
theorem exec_of_mem_branchForms_cond (off : Byte) :
    ∀ f ∈ branchForms off, ∀ s, exec f.instr s = branch 2 (f.cond s.p) off s := by
  simp only [branchForms, List.forall_mem_cons, beq_true, beq_false]
  exact ⟨exec_bcc off, exec_bcs off, exec_beq off, exec_bmi off, exec_bne off, exec_bpl off, exec_bvc off, exec_bvs off,
    List.forall_mem_nil _⟩

theorem encode_of_mem_branchForms (off : Byte) : ∀ f ∈ branchForms off, encode f.instr = f.bytes :=
  List.map_inj_left.1 (rfl : (branchForms off).map (fun f => encode f.instr) = (branchForms off).map BranchForm.bytes)

theorem relativeTarget_eq (off : Byte) (s : State) : relativeTarget off s = BitVec.ofInt 16 (s.pc.toNat + off.toInt) := by
  rw [BitVec.ofInt_add, BitVec.ofInt_natCast, BitVec.ofNat_toNat, BitVec.setWidth_eq]
  rfl

/-- The cost of a taken branch (R87, R180). -/
theorem takenCycles_eq (target pc : Word) :
    2 + 1 + (pageCrossed target pc).toNat = if target.toNat / 256 = pc.toNat / 256 then 3 else 4 := by
  split
  · next h => rw [Bool.eq_false_iff.2 (mt (pageCrossed_iff target pc).1 (not_not.2 h))]; rfl
  · next h => rw [(pageCrossed_iff target pc).2 h]; rfl

/-- Settles O49: each branch is the one branch operation on its condition. -/
theorem branchesTestOneFlag : Obligations.BranchesTestOneFlag := by
  rintro s off target rfl f hf
  refine ⟨encode_of_mem_branchForms off f hf, fun hcond => ?_, fun hcond => ?_⟩ <;>
    rw [exec_of_mem_branchForms_cond off f hf, hcond]
  · rw [← relativeTarget_eq, ← takenCycles_eq]
    rfl
  · rfl

/-! ## Flag instructions (R190 to R197) -/

/-- Writing the interrupt flag adds just it to the flags an effect writes. -/
theorem holds_setI {e : FlagEffect} {p q : Byte} (h : e.Holds p q) (i : Bool) :
    ({ e with i := some i } : FlagEffect).Holds p (setI i q) := by
  obtain ⟨hc, hz, -, hd, h4, h5, hv, hn⟩ := h
  have bit := getLsbD_setI i q
  exact ⟨(bit 0 (by decide)).trans hc, (bit 1 (by decide)).trans hz, bit 2 (by decide), (bit 3 (by decide)).trans hd,
    (bit 4 (by decide)).trans h4, (bit 5 (by decide)).trans h5, (bit 6 (by decide)).trans hv, (bit 7 (by decide)).trans hn⟩

/-- Settles O50: each is one write of its flag. -/
theorem flagInstructionsWriteOneFlag : Obligations.FlagInstructionsWriteOneFlag := fun s =>
  ⟨⟨rfl, _, holds_setC (holds_none s.p) false, exec_clc s⟩, ⟨rfl, _, holds_setD (holds_none s.p) false, exec_cld s⟩,
    ⟨rfl, _, holds_setI (holds_none s.p) false, exec_cli s⟩, ⟨rfl, _, holds_setV (holds_none s.p) false, exec_clv s⟩,
    ⟨rfl, _, holds_setC (holds_none s.p) true, exec_sec s⟩, ⟨rfl, _, holds_setD (holds_none s.p) true, exec_sed s⟩,
    ⟨rfl, _, holds_setI (holds_none s.p) true, exec_sei s⟩, ⟨rfl, exec_nop s⟩⟩

/-! ## Interrupt entry and return (R198, R199, R307) -/

/-- Settles O51: BRK is an interrupt entry, whose status is the old one with I set. -/
theorem brkEntersThroughVector : Obligations.BrkEntersThroughVector := by
  rintro s ret rfl
  refine ⟨rfl, setI true s.p, holds_setI (holds_none s.p) true, ?_⟩
  rw [exec_brk, interruptEntry_eq (by decide) (by decide), entryMem_eq_memWrite, sp_sub_three]
  rfl

theorem exec_rti_eq (s : State) : exec .rti s =
    .next { s with
      p := statusPulled (s.mem.read (0x100 + (s.sp + 1).toNat))
      pc := word (s.mem.read (0x100 + (s.sp + 1 + 1 + 1).toNat)) (s.mem.read (0x100 + (s.sp + 1 + 1).toNat))
      sp := s.sp + 1 + 1 + 1
      cycleCount := 6 } := by
  rw [exec_rti, interruptReturn_eq]
  rfl

/-- Settles O52: RTI is three pulls. -/
theorem rtiRestoresStatusAndPc : Obligations.RtiRestoresStatusAndPc := by
  intro s
  refine ⟨rfl, ?_⟩
  rw [exec_rti_eq, sp_add_three, sp_add_two, peek_stackPull, peek_stackPull, peek_stackPull]
  rfl

/-- A pending NMI is taken before any fetch. -/
theorem cpuStep_of_nmi {s : State} (hfault : s.fault = none) (hnmi : s.nmiPending = true) :
    cpuStep s = .next { s with
      nmiPending := false
      mem := entryMem s.pc (statusFromNmi s.p) s
      sp := s.sp - 1 - 1 - 1
      p := setI true s.p
      pc := word (peek s 0xFFFB) (peek s 0xFFFA)
      cycleCount := 7 } := by
  have hentry : cpuStep s = .next (nmiEntry (s.withCycles 0)) := by simp [cpuStep, hfault, hnmi]
  exact hentry.trans (congrArg Host.Outcome.next (nmiEntry_eq (s.withCycles 0)))

/-- Settles O16: the entry is the CPU step, and its 7 cycles are 21 ticks. -/
theorem nmiEntersThroughVector : Obligations.NmiEntersThroughVector := by
  intro s hfault hnmi
  have hcpu := cpuStep_of_nmi hfault hnmi
  refine ⟨setI true s.p, holds_setI (holds_none s.p) true, _, rfl, ?_, ?_⟩ <;> rw [entryMem_eq_memWrite, ← sp_sub_three]
  · exact hcpu
  · rw [step, systemStep, hcpu]
    exact congrArg Host.Outcome.next (settle_eq_ppuTicks fun h => absurd hfault h)

theorem statusPulled_statusFromNmi (p : Byte) : statusPulled (statusFromNmi p) = (p &&& 0xCF) ||| 0x20 := by
  refine status_ext fun k hk => ?_
  simp only [statusPulled, statusFromNmi, BitVec.getLsbD_or, BitVec.getLsbD_and]
  interval_cases k <;> simp

/-- Settles O17: RTI pulls the three bytes the entry pushed. -/
theorem nmiThenRtiResumes : Obligations.NmiThenRtiResumes := by
  intro s hs hfault hnmi
  have hsp2 : s.sp - 1 - 1 - 1 + 1 = s.sp - 1 - 1 := BitVec.sub_add_cancel _ 1
  have hsp1 : s.sp - 1 - 1 + 1 = s.sp - 1 := BitVec.sub_add_cancel _ 1
  have hsp0 : s.sp - 1 + 1 = s.sp := BitVec.sub_add_cancel _ 1
  refine ⟨_, { s with
      mem := entryMem s.pc (statusFromNmi s.p) s, p := (s.p &&& 0xCF) ||| 0x20, nmiPending := false, cycleCount := 6 },
    cpuStep_of_nmi hfault hnmi, ?_, rfl, fun b h0 h1 h2 => read_entryMem_other h0 h1 h2 _ _⟩
  rw [exec_rti_eq]
  simp only [hsp2, hsp1, hsp0, read_entryMem_status hs, read_entryMem_low hs, read_entryMem_high hs, word_hi8_lo8,
    statusPulled_statusFromNmi]

/-! ## Unknown opcodes and the fault state (R301 to R303) -/

/-- The fetch of an unknown opcode ends with its byte. -/
theorem fetchInstr_of_unknown {s : State} (h : peek s s.pc ∈ unknownOpcodes) :
    fetchInstr (s.withCycles 0) = (.error (peek s s.pc), fetched 1 s) := by
  have hop : fetchByte (s.withCycles 0) = (peek s s.pc, fetched 1 s) := by
    rw [← fetched_zero, fetchByte_fetched (by decide), add_ofNat_zero]
  have hrow : lookup (peek s s.pc) = none := Option.isNone_iff_eq_none.1 ((lookup_isNone_iff _).2 h)
  simp only [fetchInstr, hop, hrow]

theorem step_of_unknown {s : State} (hfault : s.fault = none) (hnmi : s.nmiPending = false) (h : peek s s.pc ∈ unknownOpcodes) :
    step s = .next ((fetched 1 s).withFault (.unknownOpcode (peek s s.pc))) := by
  have hcpu : cpuStep s = .next ((fetched 1 s).withFault (.unknownOpcode (peek s s.pc))) := by
    simp only [cpuStep, hfault, State.withCycles_nmiPending, hnmi, fetchInstr_of_unknown h, Bool.false_eq_true, if_false,
      unknownOpcode_abort]
  rw [step, systemStep, hcpu]
  exact congrArg Host.Outcome.next (unlessFaulted_of_some rfl _)

/-- Settles O6: the fetch reads one byte, the fault is recorded, and a faulted machine gets no ticks. -/
theorem unknownOpcodeFaults : Obligations.UnknownOpcodeFaults := by
  intro s hfault hnmi h
  rw [step_of_unknown hfault hnmi h]
  refine ⟨fun hne => ?_, fun hstatus => ?_⟩
  · have hnone : ∀ k < 1, canon (s.pc + BitVec.ofNat 16 k) ≠ 0x2002 := fun k hk => by
      rwa [Nat.lt_one_iff.1 hk, add_ofNat_zero]
    rw [fetched_of_none hnone]
    rfl
  · rw [fetched_of_status ⟨0, Nat.one_pos, by rwa [add_ofNat_zero]⟩]
    rfl

theorem step_of_fault {s : State} {r : Fault} (h : s.fault = some r) : step s = .fault r := by
  simp [step, systemStep, cpuStep, h]

theorem inSpace_iff (addr : Int) : inSpace addr = true ↔ 0 ≤ addr ∧ addr ≤ 65535 := by
  simp [inSpace]

theorem inSpace_toNat (k : Word) : inSpace k.toNat = true := by
  rw [inSpace_iff]
  omega

/-- Settles O21: the port decides on the range of the address. -/
theorem portOutOfSpaceFaults : Obligations.PortOutOfSpaceFaults := by
  intro addr v s hs
  refine ⟨fun hout => ?_, ?_⟩
  · have hspace : inSpace addr = false := by
      rw [Bool.eq_false_iff, Ne, inSpace_iff]
      omega
    have hwrite : portWrite addr v s = { s with fault := some (.addressOutOfBounds addr) } := by
      simp only [portWrite, unlessFaulted_of_none hs, hspace, Bool.false_eq_true, if_false]
      rfl
    refine ⟨?_, hwrite, step_of_fault (by rw [hwrite])⟩
    simp only [portRead, hs, hspace, Option.isSome_none, Bool.false_eq_true, if_false]
    rfl
  · rintro k rfl
    have hk : BitVec.ofInt 16 (k.toNat : Int) = k := by rw [BitVec.ofInt_natCast, BitVec.ofNat_toNat, BitVec.setWidth_eq]
    constructor
    · simp [portRead, hs, inSpace_toNat, hk]
    · simp [portWrite, hs, inSpace_toNat, hk]

/-- A run of one or more steps answers a fault of its first step. -/
theorem run_of_fault {M : Host.Core} {s : M.State} {r : M.Fault} (h : M.step s = .fault r) (n : Nat) : M.run (n + 1) s = .fault r := by
  rw [Host.Core.run, h]

/-- Settles O7: every request looks at the fault record first. -/
theorem faultedMachineStaysStopped : Obligations.FaultedMachineStaysStopped := by
  intro s r hr
  refine ⟨run_of_fault (M := core) (step_of_fault hr), fun par => unlessFaulted_of_some hr _, unlessFaulted_of_some hr _,
    fun addr v => ⟨?_, unlessFaulted_of_some hr _⟩, loadRom_of_fault hr⟩
  rw [portRead, hr]
  rfl

/-- Settles O18: on an unfaulted machine the reset is the register writes and the vector; a faulted one it leaves. -/
theorem cpuResetSetsRegisters : Obligations.CpuResetSetsRegisters := by
  intro par s
  have hreset : s.fault = none → cpuReset par s = _ := fun hs => (cpuReset_eq hs par).trans (resetRegisters_eq par s)
  refine ⟨?_, hreset⟩
  cases hs : s.fault with
  | none => rw [hreset hs]; exact hs
  | some r => rw [cpuReset, unlessFaulted_of_some hs]; exact hs

end Sys2Proof.Proofs
